-- ==== Sys2Proof/Word.lean ====
section
/-! DEFINITION. The two word types of CORE: the byte of every register and bus datum, and the 16-bit address (R5). -/

namespace Sys2Proof

/-- A byte: `DATA_WIDTH` is 8 (R5). -/
abbrev Byte := BitVec 8

/-- An address: `ADDR_WIDTH` is 16 (R5, R71). -/
abbrev Addr := BitVec 16

end Sys2Proof
end

