-- ==== Sys2Proof/Syntax.lean ====
section
/-! DEFINITION. The abstract syntax: one constructor per row of spec/opcode_table.json, first those with operands, then those without, each in the table's order (R106), with the operand fields of R101 and R103. -/

namespace Sys2Proof

/-- The 256 instructions of R106. The name is the mnemonic and the addressing mode of R104; where several opcodes share
both (the unofficial NOPs, ANC, JAM) the opcode follows. `imm8`, `zp8`, `ptr8`, `off8`, `addr16`, `ptr16` are R103's fields. -/
inductive Instr where
  | oraIzx (ptr8 : Byte)
  | sloIzx (ptr8 : Byte)
  | nopZp04 (zp8 : Byte)
  | oraZp (zp8 : Byte)
  | aslZp (zp8 : Byte)
  | sloZp (zp8 : Byte)
  | oraImm (imm8 : Byte)
  | ancImm0B (imm8 : Byte)
  | nopAbs0C (addr16 : Addr)
  | oraAbs (addr16 : Addr)
  | aslAbs (addr16 : Addr)
  | sloAbs (addr16 : Addr)
  | bpl (off8 : Byte)
  | oraIzy (ptr8 : Byte)
  | sloIzy (ptr8 : Byte)
  | nopZpx14 (zp8 : Byte)
  | oraZpx (zp8 : Byte)
  | aslZpx (zp8 : Byte)
  | sloZpx (zp8 : Byte)
  | oraAbsy (addr16 : Addr)
  | sloAbsy (addr16 : Addr)
  | nopAbsx1C (addr16 : Addr)
  | oraAbsx (addr16 : Addr)
  | aslAbsx (addr16 : Addr)
  | sloAbsx (addr16 : Addr)
  | jsrAbs (addr16 : Addr)
  | andIzx (ptr8 : Byte)
  | rlaIzx (ptr8 : Byte)
  | bitZp (zp8 : Byte)
  | andZp (zp8 : Byte)
  | rolZp (zp8 : Byte)
  | rlaZp (zp8 : Byte)
  | andImm (imm8 : Byte)
  | ancImm2B (imm8 : Byte)
  | bitAbs (addr16 : Addr)
  | andAbs (addr16 : Addr)
  | rolAbs (addr16 : Addr)
  | rlaAbs (addr16 : Addr)
  | bmi (off8 : Byte)
  | andIzy (ptr8 : Byte)
  | rlaIzy (ptr8 : Byte)
  | nopZpx34 (zp8 : Byte)
  | andZpx (zp8 : Byte)
  | rolZpx (zp8 : Byte)
  | rlaZpx (zp8 : Byte)
  | andAbsy (addr16 : Addr)
  | rlaAbsy (addr16 : Addr)
  | nopAbsx3C (addr16 : Addr)
  | andAbsx (addr16 : Addr)
  | rolAbsx (addr16 : Addr)
  | rlaAbsx (addr16 : Addr)
  | eorIzx (ptr8 : Byte)
  | sreIzx (ptr8 : Byte)
  | nopZp44 (zp8 : Byte)
  | eorZp (zp8 : Byte)
  | lsrZp (zp8 : Byte)
  | sreZp (zp8 : Byte)
  | eorImm (imm8 : Byte)
  | alrImm (imm8 : Byte)
  | jmpAbs (addr16 : Addr)
  | eorAbs (addr16 : Addr)
  | lsrAbs (addr16 : Addr)
  | sreAbs (addr16 : Addr)
  | bvc (off8 : Byte)
  | eorIzy (ptr8 : Byte)
  | sreIzy (ptr8 : Byte)
  | nopZpx54 (zp8 : Byte)
  | eorZpx (zp8 : Byte)
  | lsrZpx (zp8 : Byte)
  | sreZpx (zp8 : Byte)
  | eorAbsy (addr16 : Addr)
  | sreAbsy (addr16 : Addr)
  | nopAbsx5C (addr16 : Addr)
  | eorAbsx (addr16 : Addr)
  | lsrAbsx (addr16 : Addr)
  | sreAbsx (addr16 : Addr)
  | adcIzx (ptr8 : Byte)
  | rraIzx (ptr8 : Byte)
  | nopZp64 (zp8 : Byte)
  | adcZp (zp8 : Byte)
  | rorZp (zp8 : Byte)
  | rraZp (zp8 : Byte)
  | adcImm (imm8 : Byte)
  | arrImm (imm8 : Byte)
  | jmpInd (ptr16 : Addr)
  | adcAbs (addr16 : Addr)
  | rorAbs (addr16 : Addr)
  | rraAbs (addr16 : Addr)
  | bvs (off8 : Byte)
  | adcIzy (ptr8 : Byte)
  | rraIzy (ptr8 : Byte)
  | nopZpx74 (zp8 : Byte)
  | adcZpx (zp8 : Byte)
  | rorZpx (zp8 : Byte)
  | rraZpx (zp8 : Byte)
  | adcAbsy (addr16 : Addr)
  | rraAbsy (addr16 : Addr)
  | nopAbsx7C (addr16 : Addr)
  | adcAbsx (addr16 : Addr)
  | rorAbsx (addr16 : Addr)
  | rraAbsx (addr16 : Addr)
  | nopImm80 (imm8 : Byte)
  | staIzx (ptr8 : Byte)
  | nopImm82 (imm8 : Byte)
  | saxIzx (ptr8 : Byte)
  | styZp (zp8 : Byte)
  | staZp (zp8 : Byte)
  | stxZp (zp8 : Byte)
  | saxZp (zp8 : Byte)
  | nopImm89 (imm8 : Byte)
  | aneImm (imm8 : Byte)
  | styAbs (addr16 : Addr)
  | staAbs (addr16 : Addr)
  | stxAbs (addr16 : Addr)
  | saxAbs (addr16 : Addr)
  | bcc (off8 : Byte)
  | staIzy (ptr8 : Byte)
  | shaIzy (ptr8 : Byte)
  | styZpx (zp8 : Byte)
  | staZpx (zp8 : Byte)
  | stxZpy (zp8 : Byte)
  | saxZpy (zp8 : Byte)
  | staAbsy (addr16 : Addr)
  | tasAbsy (addr16 : Addr)
  | shyAbsx (addr16 : Addr)
  | staAbsx (addr16 : Addr)
  | shxAbsy (addr16 : Addr)
  | shaAbsy (addr16 : Addr)
  | ldyImm (imm8 : Byte)
  | ldaIzx (ptr8 : Byte)
  | ldxImm (imm8 : Byte)
  | laxIzx (ptr8 : Byte)
  | ldyZp (zp8 : Byte)
  | ldaZp (zp8 : Byte)
  | ldxZp (zp8 : Byte)
  | laxZp (zp8 : Byte)
  | ldaImm (imm8 : Byte)
  | lxaImm (imm8 : Byte)
  | ldyAbs (addr16 : Addr)
  | ldaAbs (addr16 : Addr)
  | ldxAbs (addr16 : Addr)
  | laxAbs (addr16 : Addr)
  | bcs (off8 : Byte)
  | ldaIzy (ptr8 : Byte)
  | laxIzy (ptr8 : Byte)
  | ldyZpx (zp8 : Byte)
  | ldaZpx (zp8 : Byte)
  | ldxZpy (zp8 : Byte)
  | laxZpy (zp8 : Byte)
  | ldaAbsy (addr16 : Addr)
  | lasAbsy (addr16 : Addr)
  | ldyAbsx (addr16 : Addr)
  | ldaAbsx (addr16 : Addr)
  | ldxAbsy (addr16 : Addr)
  | laxAbsy (addr16 : Addr)
  | cpyImm (imm8 : Byte)
  | cmpIzx (ptr8 : Byte)
  | nopImmC2 (imm8 : Byte)
  | dcpIzx (ptr8 : Byte)
  | cpyZp (zp8 : Byte)
  | cmpZp (zp8 : Byte)
  | decZp (zp8 : Byte)
  | dcpZp (zp8 : Byte)
  | cmpImm (imm8 : Byte)
  | sbxImm (imm8 : Byte)
  | cpyAbs (addr16 : Addr)
  | cmpAbs (addr16 : Addr)
  | decAbs (addr16 : Addr)
  | dcpAbs (addr16 : Addr)
  | bne (off8 : Byte)
  | cmpIzy (ptr8 : Byte)
  | dcpIzy (ptr8 : Byte)
  | nopZpxD4 (zp8 : Byte)
  | cmpZpx (zp8 : Byte)
  | decZpx (zp8 : Byte)
  | dcpZpx (zp8 : Byte)
  | cmpAbsy (addr16 : Addr)
  | dcpAbsy (addr16 : Addr)
  | nopAbsxDC (addr16 : Addr)
  | cmpAbsx (addr16 : Addr)
  | decAbsx (addr16 : Addr)
  | dcpAbsx (addr16 : Addr)
  | cpxImm (imm8 : Byte)
  | sbcIzx (ptr8 : Byte)
  | nopImmE2 (imm8 : Byte)
  | iscIzx (ptr8 : Byte)
  | cpxZp (zp8 : Byte)
  | sbcZp (zp8 : Byte)
  | incZp (zp8 : Byte)
  | iscZp (zp8 : Byte)
  | sbcImm (imm8 : Byte)
  | usbcImm (imm8 : Byte)
  | cpxAbs (addr16 : Addr)
  | sbcAbs (addr16 : Addr)
  | incAbs (addr16 : Addr)
  | iscAbs (addr16 : Addr)
  | beq (off8 : Byte)
  | sbcIzy (ptr8 : Byte)
  | iscIzy (ptr8 : Byte)
  | nopZpxF4 (zp8 : Byte)
  | sbcZpx (zp8 : Byte)
  | incZpx (zp8 : Byte)
  | iscZpx (zp8 : Byte)
  | sbcAbsy (addr16 : Addr)
  | iscAbsy (addr16 : Addr)
  | nopAbsxFC (addr16 : Addr)
  | sbcAbsx (addr16 : Addr)
  | incAbsx (addr16 : Addr)
  | iscAbsx (addr16 : Addr)
  | brk
  | jam02
  | php
  | aslAcc
  | jam12
  | clc
  | nopImp1A
  | jam22
  | plp
  | rolAcc
  | jam32
  | sec
  | nopImp3A
  | rti
  | jam42
  | pha
  | lsrAcc
  | jam52
  | cli
  | nopImp5A
  | rts
  | jam62
  | pla
  | rorAcc
  | jam72
  | sei
  | nopImp7A
  | dey
  | txa
  | jam92
  | tya
  | txs
  | tay
  | tax
  | jamB2
  | clv
  | tsx
  | iny
  | dex
  | jamD2
  | cld
  | nopImpDA
  | inx
  | nop
  | jamF2
  | sed
  | nopImpFA
  deriving DecidableEq, Repr

end Sys2Proof
end

