-- ==== Sys2Proof/WellFormed.lean ====
section
/-! DEFINITION. Well-formedness of an instruction as numbers: what R100 and R101 ask of an opcode and its operand bytes. -/

namespace Sys2Proof

/-- An instruction as an assembler writes it down: an opcode number and operand byte numbers (R100). -/
structure RawInstr where
  opcode   : Nat
  operands : List Nat
  deriving DecidableEq, Repr

/-- The lengths of opcodes 0x00 to 0x0F in bytes (R100, the listing of 30_encoding.md section 4). -/
def lengthRow0 : List Nat := [1, 2, 1, 2, 2, 2, 2, 2, 1, 2, 1, 2, 3, 3, 3, 3]
/-- The lengths of opcodes 0x10 to 0x1F in bytes (R100, the listing of 30_encoding.md section 4). -/
def lengthRow1 : List Nat := [2, 2, 1, 2, 2, 2, 2, 2, 1, 3, 1, 3, 3, 3, 3, 3]
/-- The lengths of opcodes 0x20 to 0x2F in bytes (R100, the listing of 30_encoding.md section 4). -/
def lengthRow2 : List Nat := [3, 2, 1, 2, 2, 2, 2, 2, 1, 2, 1, 2, 3, 3, 3, 3]
/-- The lengths of opcodes 0x30 to 0x3F in bytes (R100, the listing of 30_encoding.md section 4). -/
def lengthRow3 : List Nat := [2, 2, 1, 2, 2, 2, 2, 2, 1, 3, 1, 3, 3, 3, 3, 3]
/-- The lengths of opcodes 0x40 to 0x4F in bytes (R100, the listing of 30_encoding.md section 4). -/
def lengthRow4 : List Nat := [1, 2, 1, 2, 2, 2, 2, 2, 1, 2, 1, 2, 3, 3, 3, 3]
/-- The lengths of opcodes 0x50 to 0x5F in bytes (R100, the listing of 30_encoding.md section 4). -/
def lengthRow5 : List Nat := [2, 2, 1, 2, 2, 2, 2, 2, 1, 3, 1, 3, 3, 3, 3, 3]
/-- The lengths of opcodes 0x60 to 0x6F in bytes (R100, the listing of 30_encoding.md section 4). -/
def lengthRow6 : List Nat := [1, 2, 1, 2, 2, 2, 2, 2, 1, 2, 1, 2, 3, 3, 3, 3]
/-- The lengths of opcodes 0x70 to 0x7F in bytes (R100, the listing of 30_encoding.md section 4). -/
def lengthRow7 : List Nat := [2, 2, 1, 2, 2, 2, 2, 2, 1, 3, 1, 3, 3, 3, 3, 3]
/-- The lengths of opcodes 0x80 to 0x8F in bytes (R100, the listing of 30_encoding.md section 4). -/
def lengthRow8 : List Nat := [2, 2, 2, 2, 2, 2, 2, 2, 1, 2, 1, 2, 3, 3, 3, 3]
/-- The lengths of opcodes 0x90 to 0x9F in bytes (R100, the listing of 30_encoding.md section 4). -/
def lengthRow9 : List Nat := [2, 2, 1, 2, 2, 2, 2, 2, 1, 3, 1, 3, 3, 3, 3, 3]
/-- The lengths of opcodes 0xA0 to 0xAF in bytes (R100, the listing of 30_encoding.md section 4). -/
def lengthRowA : List Nat := [2, 2, 2, 2, 2, 2, 2, 2, 1, 2, 1, 2, 3, 3, 3, 3]
/-- The lengths of opcodes 0xB0 to 0xBF in bytes (R100, the listing of 30_encoding.md section 4). -/
def lengthRowB : List Nat := [2, 2, 1, 2, 2, 2, 2, 2, 1, 3, 1, 3, 3, 3, 3, 3]
/-- The lengths of opcodes 0xC0 to 0xCF in bytes (R100, the listing of 30_encoding.md section 4). -/
def lengthRowC : List Nat := [2, 2, 2, 2, 2, 2, 2, 2, 1, 2, 1, 2, 3, 3, 3, 3]
/-- The lengths of opcodes 0xD0 to 0xDF in bytes (R100, the listing of 30_encoding.md section 4). -/
def lengthRowD : List Nat := [2, 2, 1, 2, 2, 2, 2, 2, 1, 3, 1, 3, 3, 3, 3, 3]
/-- The lengths of opcodes 0xE0 to 0xEF in bytes (R100, the listing of 30_encoding.md section 4). -/
def lengthRowE : List Nat := [2, 2, 2, 2, 2, 2, 2, 2, 1, 2, 1, 2, 3, 3, 3, 3]
/-- The lengths of opcodes 0xF0 to 0xFF in bytes (R100, the listing of 30_encoding.md section 4). -/
def lengthRowF : List Nat := [2, 2, 1, 2, 2, 2, 2, 2, 1, 3, 1, 3, 3, 3, 3, 3]

/-- The lengths of all opcodes, a row for each high nibble. -/
def lengthRows : List (List Nat) :=
  [lengthRow0, lengthRow1, lengthRow2, lengthRow3, lengthRow4, lengthRow5, lengthRow6, lengthRow7,
   lengthRow8, lengthRow9, lengthRowA, lengthRowB, lengthRowC, lengthRowD, lengthRowE, lengthRowF]

/-- The length in bytes of an opcode, none for a number that is no byte: the opcode byte alone fixes it (R100). -/
def lengthOf (opcode : Nat) : Option Nat := (lengthRows[opcode / 16]?).bind fun row => row[opcode % 16]?

/-- The opcode is a byte value (R100). -/
def RawInstr.opcodeIsByte (r : RawInstr) : Bool := decide (r.opcode < 256)

/-- The number of operand bytes is the one the opcode fixes (R100). -/
def RawInstr.countFits (r : RawInstr) : Bool :=
  decide (lengthOf r.opcode = some (r.operands.length + 1))

/-- Every operand number is a byte value (R101). -/
def RawInstr.operandsAreBytes (r : RawInstr) : Bool := r.operands.all fun n => decide (n < 256)

/-- All three checks together. -/
def RawInstr.wellFormed (r : RawInstr) : Bool :=
  r.opcodeIsByte && r.countFits && r.operandsAreBytes

end Sys2Proof
end

