-- ==== Sys2Proof/Decode.lean ====
section
/-! DEFINITION. Decoding of instruction bytes (R100 to R106), total on any bytes, and the encoder written from the same map. -/

namespace Sys2Proof

/-- `lo8(w)` of R6. -/
def lo8 (w : Addr) : Byte := w.setWidth 8

/-- `hi8(w)` of R6. -/
def hi8 (w : Addr) : Byte := (w >>> 8).setWidth 8

/-- `hi:lo` of R6: the 16-bit value `hi * 256 + lo`. -/
def wordOf (hi lo : Byte) : Addr := hi ++ lo

/-- What one opcode slot makes of the two bytes after the opcode. A slot of length 1 uses neither, one of length 2 only
the first (R100, R103); a 16-bit operand has its low byte first (R73, R103). -/
abbrev Slot := Byte → Byte → Instr

/-- Row 0x of the opcode map of R106. -/
def opcodeRow0 : Vector Slot 16 := #v[
  fun _ _ => .brk,
  fun b _ => .oraIzx b,
  fun _ _ => .jam02,
  fun b _ => .sloIzx b,
  fun b _ => .nopZp04 b,
  fun b _ => .oraZp b,
  fun b _ => .aslZp b,
  fun b _ => .sloZp b,
  fun _ _ => .php,
  fun b _ => .oraImm b,
  fun _ _ => .aslAcc,
  fun b _ => .ancImm0B b,
  fun l h => .nopAbs0C (wordOf h l),
  fun l h => .oraAbs (wordOf h l),
  fun l h => .aslAbs (wordOf h l),
  fun l h => .sloAbs (wordOf h l)]

/-- Row 1x of the opcode map of R106. -/
def opcodeRow1 : Vector Slot 16 := #v[
  fun b _ => .bpl b,
  fun b _ => .oraIzy b,
  fun _ _ => .jam12,
  fun b _ => .sloIzy b,
  fun b _ => .nopZpx14 b,
  fun b _ => .oraZpx b,
  fun b _ => .aslZpx b,
  fun b _ => .sloZpx b,
  fun _ _ => .clc,
  fun l h => .oraAbsy (wordOf h l),
  fun _ _ => .nopImp1A,
  fun l h => .sloAbsy (wordOf h l),
  fun l h => .nopAbsx1C (wordOf h l),
  fun l h => .oraAbsx (wordOf h l),
  fun l h => .aslAbsx (wordOf h l),
  fun l h => .sloAbsx (wordOf h l)]

/-- Row 2x of the opcode map of R106. -/
def opcodeRow2 : Vector Slot 16 := #v[
  fun l h => .jsrAbs (wordOf h l),
  fun b _ => .andIzx b,
  fun _ _ => .jam22,
  fun b _ => .rlaIzx b,
  fun b _ => .bitZp b,
  fun b _ => .andZp b,
  fun b _ => .rolZp b,
  fun b _ => .rlaZp b,
  fun _ _ => .plp,
  fun b _ => .andImm b,
  fun _ _ => .rolAcc,
  fun b _ => .ancImm2B b,
  fun l h => .bitAbs (wordOf h l),
  fun l h => .andAbs (wordOf h l),
  fun l h => .rolAbs (wordOf h l),
  fun l h => .rlaAbs (wordOf h l)]

/-- Row 3x of the opcode map of R106. -/
def opcodeRow3 : Vector Slot 16 := #v[
  fun b _ => .bmi b,
  fun b _ => .andIzy b,
  fun _ _ => .jam32,
  fun b _ => .rlaIzy b,
  fun b _ => .nopZpx34 b,
  fun b _ => .andZpx b,
  fun b _ => .rolZpx b,
  fun b _ => .rlaZpx b,
  fun _ _ => .sec,
  fun l h => .andAbsy (wordOf h l),
  fun _ _ => .nopImp3A,
  fun l h => .rlaAbsy (wordOf h l),
  fun l h => .nopAbsx3C (wordOf h l),
  fun l h => .andAbsx (wordOf h l),
  fun l h => .rolAbsx (wordOf h l),
  fun l h => .rlaAbsx (wordOf h l)]

/-- Row 4x of the opcode map of R106. -/
def opcodeRow4 : Vector Slot 16 := #v[
  fun _ _ => .rti,
  fun b _ => .eorIzx b,
  fun _ _ => .jam42,
  fun b _ => .sreIzx b,
  fun b _ => .nopZp44 b,
  fun b _ => .eorZp b,
  fun b _ => .lsrZp b,
  fun b _ => .sreZp b,
  fun _ _ => .pha,
  fun b _ => .eorImm b,
  fun _ _ => .lsrAcc,
  fun b _ => .alrImm b,
  fun l h => .jmpAbs (wordOf h l),
  fun l h => .eorAbs (wordOf h l),
  fun l h => .lsrAbs (wordOf h l),
  fun l h => .sreAbs (wordOf h l)]

/-- Row 5x of the opcode map of R106. -/
def opcodeRow5 : Vector Slot 16 := #v[
  fun b _ => .bvc b,
  fun b _ => .eorIzy b,
  fun _ _ => .jam52,
  fun b _ => .sreIzy b,
  fun b _ => .nopZpx54 b,
  fun b _ => .eorZpx b,
  fun b _ => .lsrZpx b,
  fun b _ => .sreZpx b,
  fun _ _ => .cli,
  fun l h => .eorAbsy (wordOf h l),
  fun _ _ => .nopImp5A,
  fun l h => .sreAbsy (wordOf h l),
  fun l h => .nopAbsx5C (wordOf h l),
  fun l h => .eorAbsx (wordOf h l),
  fun l h => .lsrAbsx (wordOf h l),
  fun l h => .sreAbsx (wordOf h l)]

/-- Row 6x of the opcode map of R106. -/
def opcodeRow6 : Vector Slot 16 := #v[
  fun _ _ => .rts,
  fun b _ => .adcIzx b,
  fun _ _ => .jam62,
  fun b _ => .rraIzx b,
  fun b _ => .nopZp64 b,
  fun b _ => .adcZp b,
  fun b _ => .rorZp b,
  fun b _ => .rraZp b,
  fun _ _ => .pla,
  fun b _ => .adcImm b,
  fun _ _ => .rorAcc,
  fun b _ => .arrImm b,
  fun l h => .jmpInd (wordOf h l),
  fun l h => .adcAbs (wordOf h l),
  fun l h => .rorAbs (wordOf h l),
  fun l h => .rraAbs (wordOf h l)]

/-- Row 7x of the opcode map of R106. -/
def opcodeRow7 : Vector Slot 16 := #v[
  fun b _ => .bvs b,
  fun b _ => .adcIzy b,
  fun _ _ => .jam72,
  fun b _ => .rraIzy b,
  fun b _ => .nopZpx74 b,
  fun b _ => .adcZpx b,
  fun b _ => .rorZpx b,
  fun b _ => .rraZpx b,
  fun _ _ => .sei,
  fun l h => .adcAbsy (wordOf h l),
  fun _ _ => .nopImp7A,
  fun l h => .rraAbsy (wordOf h l),
  fun l h => .nopAbsx7C (wordOf h l),
  fun l h => .adcAbsx (wordOf h l),
  fun l h => .rorAbsx (wordOf h l),
  fun l h => .rraAbsx (wordOf h l)]

/-- Row 8x of the opcode map of R106. -/
def opcodeRow8 : Vector Slot 16 := #v[
  fun b _ => .nopImm80 b,
  fun b _ => .staIzx b,
  fun b _ => .nopImm82 b,
  fun b _ => .saxIzx b,
  fun b _ => .styZp b,
  fun b _ => .staZp b,
  fun b _ => .stxZp b,
  fun b _ => .saxZp b,
  fun _ _ => .dey,
  fun b _ => .nopImm89 b,
  fun _ _ => .txa,
  fun b _ => .aneImm b,
  fun l h => .styAbs (wordOf h l),
  fun l h => .staAbs (wordOf h l),
  fun l h => .stxAbs (wordOf h l),
  fun l h => .saxAbs (wordOf h l)]

/-- Row 9x of the opcode map of R106. -/
def opcodeRow9 : Vector Slot 16 := #v[
  fun b _ => .bcc b,
  fun b _ => .staIzy b,
  fun _ _ => .jam92,
  fun b _ => .shaIzy b,
  fun b _ => .styZpx b,
  fun b _ => .staZpx b,
  fun b _ => .stxZpy b,
  fun b _ => .saxZpy b,
  fun _ _ => .tya,
  fun l h => .staAbsy (wordOf h l),
  fun _ _ => .txs,
  fun l h => .tasAbsy (wordOf h l),
  fun l h => .shyAbsx (wordOf h l),
  fun l h => .staAbsx (wordOf h l),
  fun l h => .shxAbsy (wordOf h l),
  fun l h => .shaAbsy (wordOf h l)]

/-- Row Ax of the opcode map of R106. -/
def opcodeRowA : Vector Slot 16 := #v[
  fun b _ => .ldyImm b,
  fun b _ => .ldaIzx b,
  fun b _ => .ldxImm b,
  fun b _ => .laxIzx b,
  fun b _ => .ldyZp b,
  fun b _ => .ldaZp b,
  fun b _ => .ldxZp b,
  fun b _ => .laxZp b,
  fun _ _ => .tay,
  fun b _ => .ldaImm b,
  fun _ _ => .tax,
  fun b _ => .lxaImm b,
  fun l h => .ldyAbs (wordOf h l),
  fun l h => .ldaAbs (wordOf h l),
  fun l h => .ldxAbs (wordOf h l),
  fun l h => .laxAbs (wordOf h l)]

/-- Row Bx of the opcode map of R106. -/
def opcodeRowB : Vector Slot 16 := #v[
  fun b _ => .bcs b,
  fun b _ => .ldaIzy b,
  fun _ _ => .jamB2,
  fun b _ => .laxIzy b,
  fun b _ => .ldyZpx b,
  fun b _ => .ldaZpx b,
  fun b _ => .ldxZpy b,
  fun b _ => .laxZpy b,
  fun _ _ => .clv,
  fun l h => .ldaAbsy (wordOf h l),
  fun _ _ => .tsx,
  fun l h => .lasAbsy (wordOf h l),
  fun l h => .ldyAbsx (wordOf h l),
  fun l h => .ldaAbsx (wordOf h l),
  fun l h => .ldxAbsy (wordOf h l),
  fun l h => .laxAbsy (wordOf h l)]

/-- Row Cx of the opcode map of R106. -/
def opcodeRowC : Vector Slot 16 := #v[
  fun b _ => .cpyImm b,
  fun b _ => .cmpIzx b,
  fun b _ => .nopImmC2 b,
  fun b _ => .dcpIzx b,
  fun b _ => .cpyZp b,
  fun b _ => .cmpZp b,
  fun b _ => .decZp b,
  fun b _ => .dcpZp b,
  fun _ _ => .iny,
  fun b _ => .cmpImm b,
  fun _ _ => .dex,
  fun b _ => .sbxImm b,
  fun l h => .cpyAbs (wordOf h l),
  fun l h => .cmpAbs (wordOf h l),
  fun l h => .decAbs (wordOf h l),
  fun l h => .dcpAbs (wordOf h l)]

/-- Row Dx of the opcode map of R106. -/
def opcodeRowD : Vector Slot 16 := #v[
  fun b _ => .bne b,
  fun b _ => .cmpIzy b,
  fun _ _ => .jamD2,
  fun b _ => .dcpIzy b,
  fun b _ => .nopZpxD4 b,
  fun b _ => .cmpZpx b,
  fun b _ => .decZpx b,
  fun b _ => .dcpZpx b,
  fun _ _ => .cld,
  fun l h => .cmpAbsy (wordOf h l),
  fun _ _ => .nopImpDA,
  fun l h => .dcpAbsy (wordOf h l),
  fun l h => .nopAbsxDC (wordOf h l),
  fun l h => .cmpAbsx (wordOf h l),
  fun l h => .decAbsx (wordOf h l),
  fun l h => .dcpAbsx (wordOf h l)]

/-- Row Ex of the opcode map of R106. -/
def opcodeRowE : Vector Slot 16 := #v[
  fun b _ => .cpxImm b,
  fun b _ => .sbcIzx b,
  fun b _ => .nopImmE2 b,
  fun b _ => .iscIzx b,
  fun b _ => .cpxZp b,
  fun b _ => .sbcZp b,
  fun b _ => .incZp b,
  fun b _ => .iscZp b,
  fun _ _ => .inx,
  fun b _ => .sbcImm b,
  fun _ _ => .nop,
  fun b _ => .usbcImm b,
  fun l h => .cpxAbs (wordOf h l),
  fun l h => .sbcAbs (wordOf h l),
  fun l h => .incAbs (wordOf h l),
  fun l h => .iscAbs (wordOf h l)]

/-- Row Fx of the opcode map of R106. -/
def opcodeRowF : Vector Slot 16 := #v[
  fun b _ => .beq b,
  fun b _ => .sbcIzy b,
  fun _ _ => .jamF2,
  fun b _ => .iscIzy b,
  fun b _ => .nopZpxF4 b,
  fun b _ => .sbcZpx b,
  fun b _ => .incZpx b,
  fun b _ => .iscZpx b,
  fun _ _ => .sed,
  fun l h => .sbcAbsy (wordOf h l),
  fun _ _ => .nopImpFA,
  fun l h => .iscAbsy (wordOf h l),
  fun l h => .nopAbsxFC (wordOf h l),
  fun l h => .sbcAbsx (wordOf h l),
  fun l h => .incAbsx (wordOf h l),
  fun l h => .iscAbsx (wordOf h l)]

/-- The opcode map of R106: a row for each high nibble, a slot for each byte value, so that no value is undefined (R105). -/
def opcodeMap : Vector (Vector Slot 16) 16 :=
  #v[opcodeRow0, opcodeRow1, opcodeRow2, opcodeRow3, opcodeRow4, opcodeRow5, opcodeRow6, opcodeRow7,
     opcodeRow8, opcodeRow9, opcodeRowA, opcodeRowB, opcodeRowC, opcodeRowD, opcodeRowE, opcodeRowF]

/-- The instruction whose opcode byte is `op` and whose following bytes are `b1` and `b2` (R105: the lookup `table[byte]`).
The bytes past the instruction's length do not count. -/
def decodeBytes (op b1 b2 : Byte) : Instr :=
  (opcodeMap[op.toNat / 16]'(by have := op.isLt; omega))[op.toNat % 16] b1 b2

/-- The length that the opcode byte fixes (R100). -/
def opcodeLength (op : Byte) : Nat := (lengthOf op.toNat).getD 0

/-- Why a list of bytes is no instruction. Every opcode value decodes (R105), so only missing bytes are a reason. -/
inductive DecodeError where
  /-- There is no byte at all. -/
  | noOpcode
  /-- The opcode is there and the operand bytes it needs are not. -/
  | missingOperand (op : Byte)
  deriving DecidableEq, Repr

/-- Decodes the instruction at the head of a list of bytes and returns it with the bytes after it (R100, R115). -/
def decode : List Byte → Except DecodeError (Instr × List Byte)
  | [] => .error .noOpcode
  | op :: rest =>
    match opcodeLength op, rest with
    | 1, rest => .ok (decodeBytes op 0 0, rest)
    | 2, b1 :: rest => .ok (decodeBytes op b1 0, rest)
    | 3, b1 :: b2 :: rest => .ok (decodeBytes op b1 b2, rest)
    | _, _ => .error (.missingOperand op)

/-- The words of an instruction: its opcode byte (R106) and its operand bytes, low byte first (R101, R103). -/
def encode : Instr → List Byte
  | .brk => [0x00]
  | .oraIzx b => [0x01, b]
  | .jam02 => [0x02]
  | .sloIzx b => [0x03, b]
  | .nopZp04 b => [0x04, b]
  | .oraZp b => [0x05, b]
  | .aslZp b => [0x06, b]
  | .sloZp b => [0x07, b]
  | .php => [0x08]
  | .oraImm b => [0x09, b]
  | .aslAcc => [0x0A]
  | .ancImm0B b => [0x0B, b]
  | .nopAbs0C w => [0x0C, lo8 w, hi8 w]
  | .oraAbs w => [0x0D, lo8 w, hi8 w]
  | .aslAbs w => [0x0E, lo8 w, hi8 w]
  | .sloAbs w => [0x0F, lo8 w, hi8 w]
  | .bpl b => [0x10, b]
  | .oraIzy b => [0x11, b]
  | .jam12 => [0x12]
  | .sloIzy b => [0x13, b]
  | .nopZpx14 b => [0x14, b]
  | .oraZpx b => [0x15, b]
  | .aslZpx b => [0x16, b]
  | .sloZpx b => [0x17, b]
  | .clc => [0x18]
  | .oraAbsy w => [0x19, lo8 w, hi8 w]
  | .nopImp1A => [0x1A]
  | .sloAbsy w => [0x1B, lo8 w, hi8 w]
  | .nopAbsx1C w => [0x1C, lo8 w, hi8 w]
  | .oraAbsx w => [0x1D, lo8 w, hi8 w]
  | .aslAbsx w => [0x1E, lo8 w, hi8 w]
  | .sloAbsx w => [0x1F, lo8 w, hi8 w]
  | .jsrAbs w => [0x20, lo8 w, hi8 w]
  | .andIzx b => [0x21, b]
  | .jam22 => [0x22]
  | .rlaIzx b => [0x23, b]
  | .bitZp b => [0x24, b]
  | .andZp b => [0x25, b]
  | .rolZp b => [0x26, b]
  | .rlaZp b => [0x27, b]
  | .plp => [0x28]
  | .andImm b => [0x29, b]
  | .rolAcc => [0x2A]
  | .ancImm2B b => [0x2B, b]
  | .bitAbs w => [0x2C, lo8 w, hi8 w]
  | .andAbs w => [0x2D, lo8 w, hi8 w]
  | .rolAbs w => [0x2E, lo8 w, hi8 w]
  | .rlaAbs w => [0x2F, lo8 w, hi8 w]
  | .bmi b => [0x30, b]
  | .andIzy b => [0x31, b]
  | .jam32 => [0x32]
  | .rlaIzy b => [0x33, b]
  | .nopZpx34 b => [0x34, b]
  | .andZpx b => [0x35, b]
  | .rolZpx b => [0x36, b]
  | .rlaZpx b => [0x37, b]
  | .sec => [0x38]
  | .andAbsy w => [0x39, lo8 w, hi8 w]
  | .nopImp3A => [0x3A]
  | .rlaAbsy w => [0x3B, lo8 w, hi8 w]
  | .nopAbsx3C w => [0x3C, lo8 w, hi8 w]
  | .andAbsx w => [0x3D, lo8 w, hi8 w]
  | .rolAbsx w => [0x3E, lo8 w, hi8 w]
  | .rlaAbsx w => [0x3F, lo8 w, hi8 w]
  | .rti => [0x40]
  | .eorIzx b => [0x41, b]
  | .jam42 => [0x42]
  | .sreIzx b => [0x43, b]
  | .nopZp44 b => [0x44, b]
  | .eorZp b => [0x45, b]
  | .lsrZp b => [0x46, b]
  | .sreZp b => [0x47, b]
  | .pha => [0x48]
  | .eorImm b => [0x49, b]
  | .lsrAcc => [0x4A]
  | .alrImm b => [0x4B, b]
  | .jmpAbs w => [0x4C, lo8 w, hi8 w]
  | .eorAbs w => [0x4D, lo8 w, hi8 w]
  | .lsrAbs w => [0x4E, lo8 w, hi8 w]
  | .sreAbs w => [0x4F, lo8 w, hi8 w]
  | .bvc b => [0x50, b]
  | .eorIzy b => [0x51, b]
  | .jam52 => [0x52]
  | .sreIzy b => [0x53, b]
  | .nopZpx54 b => [0x54, b]
  | .eorZpx b => [0x55, b]
  | .lsrZpx b => [0x56, b]
  | .sreZpx b => [0x57, b]
  | .cli => [0x58]
  | .eorAbsy w => [0x59, lo8 w, hi8 w]
  | .nopImp5A => [0x5A]
  | .sreAbsy w => [0x5B, lo8 w, hi8 w]
  | .nopAbsx5C w => [0x5C, lo8 w, hi8 w]
  | .eorAbsx w => [0x5D, lo8 w, hi8 w]
  | .lsrAbsx w => [0x5E, lo8 w, hi8 w]
  | .sreAbsx w => [0x5F, lo8 w, hi8 w]
  | .rts => [0x60]
  | .adcIzx b => [0x61, b]
  | .jam62 => [0x62]
  | .rraIzx b => [0x63, b]
  | .nopZp64 b => [0x64, b]
  | .adcZp b => [0x65, b]
  | .rorZp b => [0x66, b]
  | .rraZp b => [0x67, b]
  | .pla => [0x68]
  | .adcImm b => [0x69, b]
  | .rorAcc => [0x6A]
  | .arrImm b => [0x6B, b]
  | .jmpInd w => [0x6C, lo8 w, hi8 w]
  | .adcAbs w => [0x6D, lo8 w, hi8 w]
  | .rorAbs w => [0x6E, lo8 w, hi8 w]
  | .rraAbs w => [0x6F, lo8 w, hi8 w]
  | .bvs b => [0x70, b]
  | .adcIzy b => [0x71, b]
  | .jam72 => [0x72]
  | .rraIzy b => [0x73, b]
  | .nopZpx74 b => [0x74, b]
  | .adcZpx b => [0x75, b]
  | .rorZpx b => [0x76, b]
  | .rraZpx b => [0x77, b]
  | .sei => [0x78]
  | .adcAbsy w => [0x79, lo8 w, hi8 w]
  | .nopImp7A => [0x7A]
  | .rraAbsy w => [0x7B, lo8 w, hi8 w]
  | .nopAbsx7C w => [0x7C, lo8 w, hi8 w]
  | .adcAbsx w => [0x7D, lo8 w, hi8 w]
  | .rorAbsx w => [0x7E, lo8 w, hi8 w]
  | .rraAbsx w => [0x7F, lo8 w, hi8 w]
  | .nopImm80 b => [0x80, b]
  | .staIzx b => [0x81, b]
  | .nopImm82 b => [0x82, b]
  | .saxIzx b => [0x83, b]
  | .styZp b => [0x84, b]
  | .staZp b => [0x85, b]
  | .stxZp b => [0x86, b]
  | .saxZp b => [0x87, b]
  | .dey => [0x88]
  | .nopImm89 b => [0x89, b]
  | .txa => [0x8A]
  | .aneImm b => [0x8B, b]
  | .styAbs w => [0x8C, lo8 w, hi8 w]
  | .staAbs w => [0x8D, lo8 w, hi8 w]
  | .stxAbs w => [0x8E, lo8 w, hi8 w]
  | .saxAbs w => [0x8F, lo8 w, hi8 w]
  | .bcc b => [0x90, b]
  | .staIzy b => [0x91, b]
  | .jam92 => [0x92]
  | .shaIzy b => [0x93, b]
  | .styZpx b => [0x94, b]
  | .staZpx b => [0x95, b]
  | .stxZpy b => [0x96, b]
  | .saxZpy b => [0x97, b]
  | .tya => [0x98]
  | .staAbsy w => [0x99, lo8 w, hi8 w]
  | .txs => [0x9A]
  | .tasAbsy w => [0x9B, lo8 w, hi8 w]
  | .shyAbsx w => [0x9C, lo8 w, hi8 w]
  | .staAbsx w => [0x9D, lo8 w, hi8 w]
  | .shxAbsy w => [0x9E, lo8 w, hi8 w]
  | .shaAbsy w => [0x9F, lo8 w, hi8 w]
  | .ldyImm b => [0xA0, b]
  | .ldaIzx b => [0xA1, b]
  | .ldxImm b => [0xA2, b]
  | .laxIzx b => [0xA3, b]
  | .ldyZp b => [0xA4, b]
  | .ldaZp b => [0xA5, b]
  | .ldxZp b => [0xA6, b]
  | .laxZp b => [0xA7, b]
  | .tay => [0xA8]
  | .ldaImm b => [0xA9, b]
  | .tax => [0xAA]
  | .lxaImm b => [0xAB, b]
  | .ldyAbs w => [0xAC, lo8 w, hi8 w]
  | .ldaAbs w => [0xAD, lo8 w, hi8 w]
  | .ldxAbs w => [0xAE, lo8 w, hi8 w]
  | .laxAbs w => [0xAF, lo8 w, hi8 w]
  | .bcs b => [0xB0, b]
  | .ldaIzy b => [0xB1, b]
  | .jamB2 => [0xB2]
  | .laxIzy b => [0xB3, b]
  | .ldyZpx b => [0xB4, b]
  | .ldaZpx b => [0xB5, b]
  | .ldxZpy b => [0xB6, b]
  | .laxZpy b => [0xB7, b]
  | .clv => [0xB8]
  | .ldaAbsy w => [0xB9, lo8 w, hi8 w]
  | .tsx => [0xBA]
  | .lasAbsy w => [0xBB, lo8 w, hi8 w]
  | .ldyAbsx w => [0xBC, lo8 w, hi8 w]
  | .ldaAbsx w => [0xBD, lo8 w, hi8 w]
  | .ldxAbsy w => [0xBE, lo8 w, hi8 w]
  | .laxAbsy w => [0xBF, lo8 w, hi8 w]
  | .cpyImm b => [0xC0, b]
  | .cmpIzx b => [0xC1, b]
  | .nopImmC2 b => [0xC2, b]
  | .dcpIzx b => [0xC3, b]
  | .cpyZp b => [0xC4, b]
  | .cmpZp b => [0xC5, b]
  | .decZp b => [0xC6, b]
  | .dcpZp b => [0xC7, b]
  | .iny => [0xC8]
  | .cmpImm b => [0xC9, b]
  | .dex => [0xCA]
  | .sbxImm b => [0xCB, b]
  | .cpyAbs w => [0xCC, lo8 w, hi8 w]
  | .cmpAbs w => [0xCD, lo8 w, hi8 w]
  | .decAbs w => [0xCE, lo8 w, hi8 w]
  | .dcpAbs w => [0xCF, lo8 w, hi8 w]
  | .bne b => [0xD0, b]
  | .cmpIzy b => [0xD1, b]
  | .jamD2 => [0xD2]
  | .dcpIzy b => [0xD3, b]
  | .nopZpxD4 b => [0xD4, b]
  | .cmpZpx b => [0xD5, b]
  | .decZpx b => [0xD6, b]
  | .dcpZpx b => [0xD7, b]
  | .cld => [0xD8]
  | .cmpAbsy w => [0xD9, lo8 w, hi8 w]
  | .nopImpDA => [0xDA]
  | .dcpAbsy w => [0xDB, lo8 w, hi8 w]
  | .nopAbsxDC w => [0xDC, lo8 w, hi8 w]
  | .cmpAbsx w => [0xDD, lo8 w, hi8 w]
  | .decAbsx w => [0xDE, lo8 w, hi8 w]
  | .dcpAbsx w => [0xDF, lo8 w, hi8 w]
  | .cpxImm b => [0xE0, b]
  | .sbcIzx b => [0xE1, b]
  | .nopImmE2 b => [0xE2, b]
  | .iscIzx b => [0xE3, b]
  | .cpxZp b => [0xE4, b]
  | .sbcZp b => [0xE5, b]
  | .incZp b => [0xE6, b]
  | .iscZp b => [0xE7, b]
  | .inx => [0xE8]
  | .sbcImm b => [0xE9, b]
  | .nop => [0xEA]
  | .usbcImm b => [0xEB, b]
  | .cpxAbs w => [0xEC, lo8 w, hi8 w]
  | .sbcAbs w => [0xED, lo8 w, hi8 w]
  | .incAbs w => [0xEE, lo8 w, hi8 w]
  | .iscAbs w => [0xEF, lo8 w, hi8 w]
  | .beq b => [0xF0, b]
  | .sbcIzy b => [0xF1, b]
  | .jamF2 => [0xF2]
  | .iscIzy b => [0xF3, b]
  | .nopZpxF4 b => [0xF4, b]
  | .sbcZpx b => [0xF5, b]
  | .incZpx b => [0xF6, b]
  | .iscZpx b => [0xF7, b]
  | .sed => [0xF8]
  | .sbcAbsy w => [0xF9, lo8 w, hi8 w]
  | .nopImpFA => [0xFA]
  | .iscAbsy w => [0xFB, lo8 w, hi8 w]
  | .nopAbsxFC w => [0xFC, lo8 w, hi8 w]
  | .sbcAbsx w => [0xFD, lo8 w, hi8 w]
  | .incAbsx w => [0xFE, lo8 w, hi8 w]
  | .iscAbsx w => [0xFF, lo8 w, hi8 w]

/-- An instruction written down as numbers. -/
def Instr.raw (i : Instr) : RawInstr :=
  { opcode := ((encode i).headD 0).toNat, operands := (encode i).tail.map BitVec.toNat }

/-- An instruction is well-formed when its numbers are. Every field of `Instr` has exactly its encoding's width, so every
instruction is (proved per instruction in Laws/PerInstr.lean). -/
def Instr.wellFormed (i : Instr) : Bool := i.raw.wellFormed

/-- The length of an instruction in bytes (R100). -/
def Instr.length (i : Instr) : Nat := (encode i).length

/-- The offset byte an assembler encodes for a branch at `site` to `label`: `(label - (site + 2)) mod 256`, refused where
the label is outside -128 to +127 of `site + 2` (R112). -/
def branchOffset (site label : Addr) : Option Byte :=
  let d := label - (site + 2)
  if -128 ≤ d.toInt ∧ d.toInt ≤ 127 then some (lo8 d) else none

/-- The first three bytes of the number `w` below `2 ^ nbits`, the lowest byte first: the bytes of an instruction whose
bits are numbered as spec/opcode_table.json numbers them. -/
def tableBytes (nbits w : Nat) : Byte × Byte × Byte :=
  let w := w % 2 ^ nbits
  (BitVec.ofNat 8 w, BitVec.ofNat 8 (w / 256), BitVec.ofNat 8 (w / 65536))

/-- The instruction the decoder reads from the bits `w` of a row of spec/opcode_table.json (`nbits` of them; the operand
bytes above are zero). -/
def decodeTableWord (nbits w : Nat) : Option Instr :=
  let (b0, b1, b2) := tableBytes nbits w
  match decode [b0, b1, b2] with
  | .ok (i, _) => some i
  | .error _ => none

end Sys2Proof
end

