-- ==== Sys2Proof/Machine/State.lean ====
section
/-! DEFINITION. The state of CORE (10_state.md) with its environment, the reasons a step can stop, and the state after reset. -/

namespace Sys2Proof.Machine

/-- OpCode (R51): one of the 256 real opcodes, or slot 256 (the IRQ sequence) or slot 257 (the NMI sequence). Log 17. -/
inductive OpCode where
  | op (code : Byte)
  | irqSequence
  | nmiSequence
  deriving DecidableEq, Repr

/-- One bus access: a `MemRead` with the byte it returned, or a `MemWrite` with the byte written (R70, R76). -/
inductive BusAccess where
  | read (addr : Addr) (value : Byte)
  | write (addr : Addr) (value : Byte)
  deriving DecidableEq, Repr

/-- Storage as (index, byte) pairs, indices strictly rising, no pair with the byte an unlisted index reads as. -/
abbrev Memory := List Host.Cell

/-- A memory region: fixed-size byte storage over `[base, base + size)`, perhaps mirrored, perhaps read-only (R91, R92).
`store` lists the storage by index; what it does not list is zero, as shorter initial contents are zero-padded. -/
structure Region where
  base : Nat
  size : Nat
  mirrorSize : Option Nat
  readOnly : Bool
  store : Memory
  deriving DecidableEq, Repr

/-- A memory-mapped device over `[base, base + size)`. What it answers is open: the oracle of R70, by the device's number
and the history of accesses (`Config.deviceOutput`). Log 1. -/
structure Device where
  number : Nat
  base : Nat
  size : Nat
  deriving DecidableEq, Repr

/-- A component of the environment (R70, R88). -/
inductive Component where
  | region (r : Region)
  | device (d : Device)
  deriving DecidableEq, Repr

/-- The environment of CORE: the components registered on its bus (R70, R88). One device over the whole address space is
the oracle itself. Log 1. -/
abbrev Platform := List Component

/-- One read-write region over the whole address space, holding `m`. -/
def Platform.flat (m : Memory) : Platform :=
  [.region { base := 0, size := 65536, mirrorSize := none, readOnly := false, store := m }]

/-- The state of the machine. Every field is one of 10_state.md's, but `platform`, which is the environment (R62, R70),
and `past` and `bus`, the access history that the environment answers from (R70, log 4). -/
structure State where
  /-- A, the accumulator (R31). -/
  a : Byte
  /-- X, index register (R32). -/
  x : Byte
  /-- Y, index register (R33). -/
  y : Byte
  /-- S, the stack pointer (R34). -/
  sp : Byte
  /-- PCL, the low half of PC (R35). -/
  pcl : Byte
  /-- PCH, the high half of PC (R35). -/
  pch : Byte
  /-- P, the status register (R38). -/
  p : Byte
  /-- AL, the low half of the scratch register Address (R49). -/
  al : Byte
  /-- AH, the high half of the scratch register Address (R49). -/
  ah : Byte
  /-- Operand, the scratch register (R50). -/
  operand : Byte
  /-- OpCode (R51). -/
  opCode : OpCode
  /-- OpCodeCycle: the index of the next cycle; 0 between instructions (R52). -/
  opCodeCycle : Nat
  /-- IRQLevelDetector, the IRQ line (R53). -/
  irqLevelDetector : Bool
  /-- IRQSignal, the IRQ request latched at the last poll (R54). -/
  irqSignal : Bool
  /-- NMIEdgeDetector (R55). -/
  nmiEdgeDetector : Bool
  /-- NMISignal, the pending NMI (R56). -/
  nmiSignal : Bool
  /-- DECIMAL_ENABLED, the construction argument (R5, R57); no step changes it. Log 5. -/
  decimalEnabled : Bool
  /-- The environment that answers CORE's reads and takes its writes (R62, R70). Log 1. -/
  platform : Platform
  /-- The accesses that the environment has seen up to the last c0, oldest first (R70): CORE's own, after those of an
  earlier CORE on the same environment (R423). Log 4. -/
  past : List BusAccess
  /-- The accesses since then: of the instruction or sequence in progress, or of the last one, oldest first (R76); after
  construction its two vector reads (R421). Log 4. -/
  bus : List BusAccess
  deriving DecidableEq, Repr

/-- Why the machine stops with a fault. -/
inductive Fault where
  /-- OpCodeCycle lies outside its table entry: the contract violation that R381 calls fatal and unreachable (U1). Raised
  by `tick` alone. Safe: the model stops in a state no run reaches. -/
  | cycleOutOfTable
  deriving DecidableEq, Repr

/-- Why an instruction is refused. -/
inductive Refusal where
  /-- The instruction has no meaning yet. Raised by an arm of `exec` alone; no arm does. Safe: the model stops. -/
  | notModelled (mnemonic : String)
  deriving DecidableEq, Repr

/-- What a meaning answers. -/
abbrev Answer := Host.Outcome State Fault Refusal

/-- The state after reset (R60, R420): the values of R60's table on one 64 KB read-write memory with nothing listed
(log 1, log 2), and the PC that the vector fetch of R421 reads from it. `bus` holds the fetch's two reads. The core is one
built with decimal arithmetic enabled (log 5); `State.construct` in Machine/Ops.lean builds it on any environment and any
past of it, with either argument. -/
def State.reset : State where
  a := 0x00
  x := 0x00
  y := 0x00
  sp := 0xFD
  pcl := 0x00
  pch := 0x00
  p := 0x34
  al := 0x00
  ah := 0x00
  operand := 0x00
  opCode := .op 0x00
  opCodeCycle := 0
  irqLevelDetector := false
  irqSignal := false
  nmiEdgeDetector := false
  nmiSignal := false
  decimalEnabled := true
  platform := .flat []
  past := []
  bus := [.read 0xFFFC 0x00, .read 0xFFFD 0x00]

end Sys2Proof.Machine
end

