-- ==== Sys2Proof/Machine/Flags.lean ====
section
/-! DEFINITION. The status register P bit by bit (R38 to R48), and every arithmetic result and flag computation of CORE (42_alu.md, 43_shift_incdec.md, 46_unofficial.md). -/

namespace Sys2Proof.Machine

/-- The bits of P (R38). -/
inductive Flag where
  | c | z | i | d | b | u | v | n
  deriving DecidableEq, Repr

/-- The bit position of each flag (R38). -/
def Flag.bit : Flag → Nat
  | .c => 0
  | .z => 1
  | .i => 2
  | .d => 3
  | .b => 4
  | .u => 5
  | .v => 6
  | .n => 7

/-- The byte `p` with bit `i` put to `v`. -/
def putBit (p : Byte) (i : Nat) (v : Bool) : Byte :=
  if v then p ||| (1#8 <<< i) else p &&& ~~~(1#8 <<< i)

/-- The flag `f` of P. -/
def State.flag (s : State) (f : Flag) : Bool := s.p.getLsbD f.bit

/-- `P.f <- v`. -/
def State.setFlag (s : State) (f : Flag) (v : Bool) : State := { s with p := putBit s.p f.bit v }

/-- `SetZN(v)` of R7. -/
def State.setZN (s : State) (v : Byte) : State := (s.setFlag .z (v == 0)).setFlag .n (v.getLsbD 7)

/-- The composite-byte write of PLP and RTI: `P <- v | 0x20` (R47). -/
def State.setStatus (s : State) (v : Byte) : State := { s with p := v ||| 0x20 }

/-- The pushed copy of P: `(P & 0xCF) | 0x20 | (Bpush << 4)` (R48, R390). -/
def State.statusImage (s : State) (bPush : Bool) : Byte :=
  (s.p &&& 0xCF) ||| 0x20 ||| (if bPush then 0x10 else 0x00)

/-- A result byte with the four flags an addition or subtraction sets. -/
structure AluResult where
  value : Byte
  n : Bool
  v : Bool
  z : Bool
  c : Bool
  deriving DecidableEq, Repr

/-- Binary ADD (R201), on the exact sum. -/
def addBinary (a v : Byte) (c : Bool) : AluResult :=
  let sum := a.toNat + v.toNat + c.toNat
  let r := BitVec.ofNat 8 sum
  { value := r
    n := r.getLsbD 7
    v := (~~~(a ^^^ v) &&& (a ^^^ r) &&& 0x80) != 0
    z := r == 0
    c := decide (sum > 0xFF) }

/-- Decimal ADD (R202), in the source's order: Z from the binary sum, N and V from the high nibble before its fix-up. -/
def addDecimal (a v : Byte) (c : Bool) : AluResult :=
  let low := a.toNat % 16 + v.toNat % 16 + c.toNat
  let high := a.toNat / 16 + v.toNat / 16 + (if low > 9 then 1 else 0)
  let low' := if low > 9 then low + 6 else low
  let high' := if high > 9 then high + 6 else high
  let h := BitVec.ofNat 8 (high * 16)
  { value := BitVec.ofNat 8 (high' % 16 * 16 + low' % 16)
    n := (h &&& 0x80) != 0
    v := ((a ^^^ h) &&& 0x80) != 0 && ((a ^^^ v) &&& 0x80) == 0
    z := (a.toNat + v.toNat + c.toNat) % 256 == 0
    c := decide (high' > 15) }

/-- Binary SUB (R204), on the exact difference; C is the inverted borrow (R203). -/
def subBinary (a v : Byte) (c : Bool) : AluResult :=
  let diff : Int := (a.toNat : Int) - v.toNat - (1 - c.toNat)
  let r := BitVec.ofInt 8 diff
  { value := r
    n := r.getLsbD 7
    v := ((a ^^^ v) &&& (a ^^^ r) &&& 0x80) != 0
    z := r == 0
    c := decide (0 ≤ diff) }

/-- Decimal SUB (R205): the nibble-wise result, with all four flags of the binary subtraction. -/
def subDecimal (a v : Byte) (c : Bool) : AluResult :=
  let low : Int := ((a.toNat % 16 : Nat) : Int) - (v.toNat % 16 : Nat) - (1 - c.toNat)
  let high : Int := ((a.toNat / 16 : Nat) : Int) - (v.toNat / 16 : Nat) - (if low < 0 then 1 else 0)
  let low' := if low < 0 then low - 6 else low
  let high' := if high < 0 then high - 6 else high
  { subBinary a v c with value := BitVec.ofInt 8 (high' % 16 * 16 + low' % 16) }

/-- Binary ARR (R341), with `t = A & v` and the carry before the instruction. -/
def arrBinary (t : Byte) (c : Bool) : AluResult :=
  let r := putBit (t >>> 1) 7 c
  { value := r
    n := r.getLsbD 7
    v := r.getLsbD 6 ^^ r.getLsbD 5
    z := r == 0
    c := r.getLsbD 6 }

/-- Decimal ARR (R341): N, Z and V before the two fix-ups, C from the second. -/
def arrDecimal (t : Byte) (c : Bool) : AluResult :=
  let r := putBit (t >>> 1) 7 c
  let fixLow := decide ((t &&& 0x0F).toNat + (t &&& 0x01).toNat > 5)
  let fixHigh := decide ((t &&& 0xF0).toNat + (t &&& 0x10).toNat > 0x50)
  let r' := if fixLow then (r &&& 0xF0) ||| ((r + 0x06) &&& 0x0F) else r
  { value := if fixHigh then (r' &&& 0x0F) ||| ((r' + 0x60) &&& 0xF0) else r'
    n := c
    v := (r ^^^ t).getLsbD 6
    z := r == 0
    c := fixHigh }

/-- Decimal arithmetic happens only when DECIMAL_ENABLED is true and D is 1 (R44, R200). -/
def State.decimal (s : State) : Bool := s.decimalEnabled && s.flag .d

/-- Puts a result into A and its flags into P. -/
def State.setAlu (s : State) (r : AluResult) : State :=
  ((({ s with a := r.value }.setFlag .n r.n).setFlag .v r.v).setFlag .z r.z).setFlag .c r.c

/-- ADD(v) of R200. -/
def State.add (s : State) (v : Byte) : State :=
  s.setAlu (if s.decimal then addDecimal s.a v (s.flag .c) else addBinary s.a v (s.flag .c))

/-- SUB(v) of R203. -/
def State.sub (s : State) (v : Byte) : State :=
  s.setAlu (if s.decimal then subDecimal s.a v (s.flag .c) else subBinary s.a v (s.flag .c))

/-- ARR on the operand `v` (R341). -/
def State.arr (s : State) (v : Byte) : State :=
  s.setAlu (if s.decimal then arrDecimal (s.a &&& v) (s.flag .c) else arrBinary (s.a &&& v) (s.flag .c))

/-- The compare primitive of R210 on the register value `r`. -/
def State.compare (s : State) (r v : Byte) : State := (s.setFlag .c (decide (v.toNat ≤ r.toNat))).setZN (r - v)

/-- A modification of a byte (R156's `f`): the result with the flag and register effects. -/
abbrev Modify := Byte → State → Byte × State

/-- ASL (R240). -/
def aslByte : Modify := fun v s => (v <<< 1, (s.setFlag .c (v.getLsbD 7)).setZN (v <<< 1))

/-- LSR (R240). -/
def lsrByte : Modify := fun v s => (v >>> 1, (s.setFlag .c (v.getLsbD 0)).setZN (v >>> 1))

/-- ROL (R240). -/
def rolByte : Modify := fun v s =>
  let r := putBit (v <<< 1) 0 (s.flag .c)
  (r, (s.setFlag .c (v.getLsbD 7)).setZN r)

/-- ROR (R240). -/
def rorByte : Modify := fun v s =>
  let r := putBit (v >>> 1) 7 (s.flag .c)
  (r, (s.setFlag .c (v.getLsbD 0)).setZN r)

/-- INC (R249). -/
def incByte : Modify := fun v s => (v + 1, s.setZN (v + 1))

/-- DEC (R250). -/
def decByte : Modify := fun v s => (v - 1, s.setZN (v - 1))

end Sys2Proof.Machine
end

