-- ==== Sys2Proof/Config.lean ====
section
/-! DEFINITION. What an implementation of CORE fixes (R5): the two OPEN constants of the unstable opcodes, and the poll rule; and what a device of the environment answers, which CORE leaves open (R70). -/

namespace Sys2Proof

/-- `ANE_MAGIC` of R342, an OPEN parameter (D9): a constant without a body, so no proof can see its value. Log 6. -/
opaque Config.aneMagic : Byte

/-- `LXA_MAGIC` of R343, an OPEN parameter (D9): a constant without a body. Log 6. -/
opaque Config.lxaMagic : Byte

/-- The oracle of R70 (D16): the byte that the device of the given number drives at an address, for a read that comes after
the given accesses. One access is one cycle (R76), so their number is the cycle. A function without a body: no proof can see
a value of it. Log 1. -/
opaque Config.deviceOutput : Nat → List Machine.BusAccess → Addr → Byte

/-- The two readings of the poll point: R137 (`ACTUAL`) and R138 (`TABLE`). -/
inductive PollRule where
  | actual
  | table
  deriving DecidableEq, Repr

/-- `POLL_RULE`: the spec takes `ACTUAL` (R5, R137, D3). Log 8. -/
def Config.pollRule : PollRule := .actual

end Sys2Proof
end

