-- ==== Sys2Proof/Machine/Platform.lean ====
section
/-! DEFINITION. The environment of CORE: storage, the reference platform of R88 to R93 (the open-collector bus and the memory region), and devices, which answer as the oracle of R70. -/

namespace Sys2Proof.Machine

/-- What an index that storage does not list reads as: zero, the reference memory region's initial contents (R91, U10). Log 2. -/
def Memory.unlisted : Byte := 0x00

/-- The byte at index `a`. -/
def Memory.read : Memory → Nat → Byte
  | [], _ => Memory.unlisted
  | c :: m, a => if c.1 = a then c.2 else Memory.read m a

/-- Storage without index `a`. -/
def Memory.erase (m : Memory) (a : Nat) : Memory := m.filter fun c => c.1 != a

/-- Storage with the pair (a, v) put before the first greater index. -/
def Memory.insert : Memory → Nat → Byte → Memory
  | [], a, v => [(a, v)]
  | c :: m, a, v => if a < c.1 then (a, v) :: c :: m else c :: Memory.insert m a v

/-- Storage with the byte `v` at index `a`, in the canonical form. -/
def Memory.write (m : Memory) (a : Nat) (v : Byte) : Memory :=
  if v = Memory.unlisted then m.erase a else (m.erase a).insert a v

/-- The canonical form: indices strictly rising below 65,536 (R71), no pair with the unlisted byte. -/
def Memory.wf : Memory → Bool
  | [] => true
  | c :: m => decide (c.1 < 65536) && c.2 != Memory.unlisted && m.all (fun c' => decide (c.1 < c'.1)) && Memory.wf m

/-- Whether `a` lies in `[base, base + size)`. -/
def inRange (base size : Nat) (a : Addr) : Bool := decide (base ≤ a.toNat ∧ a.toNat < base + size)

/-- The storage index of an address in a region (R91). -/
def Region.index (r : Region) (a : Addr) : Nat :=
  match r.mirrorSize with
  | some m => (a.toNat - r.base) % m
  | none => a.toNat - r.base

/-- The region with `v` stored at the address `a`. -/
def Region.put (r : Region) (a : Addr) (v : Byte) : Region := { r with store := r.store.write (r.index a) v }

/-- The addresses a component covers (R88, R91). -/
def Component.covers : Component → Addr → Bool
  | .region r, a => inRange r.base r.size a
  | .device d, a => inRange d.base d.size a

/-- The byte a component drives at an address it covers, after the accesses `h`: a region its stored byte (R91), a device
what the oracle gives (R70, R77). -/
def Component.output : Component → List BusAccess → Addr → Byte
  | .region r, _, a => r.store.read (r.index a)
  | .device d, h, a => Config.deviceOutput d.number h a

/-- A component after a write to an address it covers: a read-only region drops it (R92), any other stores it; a device
takes it into the history that its later answers depend on (R70, R77). -/
def Component.write : Component → Addr → Byte → Component
  | .region r, a, v => .region (if r.readOnly then r else r.put a v)
  | .device d, _, _ => .device d

/-- The bus read: 0xFF ANDed with the output of every component that covers the address (R88, R90, R93). -/
def Platform.read (p : Platform) (h : List BusAccess) (a : Addr) : Byte :=
  p.foldl (fun v c => if c.covers a then v &&& c.output h a else v) 0xFF

/-- The bus write, to every component that covers the address (R89, R90, R92, R93). -/
def Platform.write (p : Platform) (a : Addr) (v : Byte) : Platform :=
  p.map fun c => if c.covers a then c.write a v else c

/-- The environment after the accesses `l`, the first one first: the writes reach it (R70). -/
def Platform.after (p : Platform) (l : List BusAccess) : Platform :=
  l.foldl (fun p e => match e with
    | .read _ _ => p
    | .write a v => p.write a v) p

/-- A region that covers the address, read-only or not, with `v` put into it from outside, as an image is loaded (log 12). -/
def Component.load : Component → Addr → Byte → Component
  | .region r, a, v => .region (if inRange r.base r.size a then r.put a v else r)
  | .device d, _, _ => .device d

/-- `v` put into every region that covers the address, from outside the machine (log 12). -/
def Platform.load (p : Platform) (a : Addr) (v : Byte) : Platform := p.map fun c => c.load a v

/-- A region's storage is in the canonical form. -/
def Component.wf : Component → Bool
  | .region r => r.store.wf
  | .device _ => true

/-- Every region's storage is in the canonical form. -/
def Platform.wf (p : Platform) : Bool := p.all Component.wf

/-- No device. -/
def Component.passive : Component → Bool
  | .region _ => true
  | .device _ => false

/-- No device: what a read answers does not depend on the history. -/
def Platform.passive (p : Platform) : Bool := p.all Component.passive

/-- The storage of the first region. -/
def Platform.storage : Platform → Memory
  | .region r :: _ => r.store
  | _ => []

/-- The environment is one 64 KB read-write memory. -/
abbrev Platform.isRam (p : Platform) : Prop := p = .flat p.storage

end Sys2Proof.Machine
end

