-- ==== Sys2Proof/Machine/Ops.lean ====
section
/-! DEFINITION. The named operations over the environment, PC, the bus and the stack, the interrupt poll, the runner of micro-operation sequences, taking an interrupt and returning from one, construction and reset. -/

namespace Sys2Proof.Machine

/-- All accesses that the environment has seen, oldest first: what the environment's answers may depend on (R70). -/
def State.history (s : State) : List BusAccess := s.past ++ s.bus

/-- The byte that the environment answers to a read of `a` now (R70). -/
def State.peek (s : State) (a : Addr) : Byte := s.platform.read s.history a

/-- PC from its halves (R35). -/
def State.pc (s : State) : Addr := wordOf s.pch s.pcl

/-- `PC <- w`. -/
def State.setPc (s : State) (w : Addr) : State := { s with pcl := lo8 w, pch := hi8 w }

/-- `PC <- PC + 1`, with the carry into PCH and the wrap at 0xFFFF (R37). -/
def State.incPc (s : State) : State := s.setPc (s.pc + 1)

/-- The scratch register Address as a bus address: `EA = AH:AL`. -/
def State.ea (s : State) : Addr := wordOf s.ah s.al

/-- Logs a bus access (log 4). -/
def State.logged (s : State) (e : BusAccess) : State := { s with bus := s.bus ++ [e] }

/-- The access of a cycle whose `MemRead(a)` returns the environment's byte; the byte itself is `s.peek a` (R7, R70, R76). It
goes into the history, and so to every device (R77). -/
def State.readCycle (s : State) (a : Addr) : State := s.logged (.read a (s.peek a))

/-- `MemWrite(a, v)` (R7, R70). -/
def State.writeCycle (s : State) (a : Addr) (v : Byte) : State :=
  { s with platform := s.platform.write a v, bus := s.bus ++ [.write a v] }

/-- The address of the next free stack byte, `0x01:S` (R34, R80). -/
def State.stackAddr (s : State) : Addr := wordOf 0x01 s.sp

/-- `Push(v)` (R81). -/
def State.push (s : State) (v : Byte) : State := { s.writeCycle s.stackAddr v with sp := s.sp - 1 }

/-- `MemRead(0x0100 + S); S <- (S + 1) mod 256` (R82). -/
def State.readStackAndRaise (s : State) : State := { s.readCycle s.stackAddr with sp := s.sp + 1 }

/-- `Poll()` (R136): the IRQ line is latched anew; an NMI edge is latched and its detector cleared, else both stay. -/
def State.poll (s : State) : State :=
  { s with
    irqSignal := s.irqLevelDetector
    nmiSignal := s.nmiSignal || s.nmiEdgeDetector
    nmiEdgeDetector := false }

/-- A cycle action of the micro-operation table: the state after it, and whether it executed `EndInstruction` (R130, R134). -/
abbrev MicroOp := State → State × Bool

/-- A cycle action that does not execute `EndInstruction`. -/
def cycle (f : State → State) : MicroOp := fun s => (f s, false)

/-- An index register of an addressing mode (R104). -/
inductive Index where
  | x
  | y
  deriving DecidableEq, Repr

/-- The value of an index register. -/
def Index.value : Index → State → Byte
  | .x, s => s.x
  | .y, s => s.y

/-- `Crossed(idx, AL)` (R151): the index exceeds the wrapped low byte. -/
def State.crossed (s : State) (i : Index) : Bool := decide (s.al.toNat < (i.value s).toNat)

/-- `BranchCross = carry XOR Operand[7]` (R158), for PCL before the branch's addition. -/
def branchCross (pcl operand : Byte) : Bool :=
  decide (0xFF < pcl.toNat + operand.toNat) ^^ operand.getLsbD 7

/-- How an entry finds its poll point (R137). -/
inductive PollPoint where
  /-- The interrupt sequences never poll (R139). -/
  | never
  /-- A fixed length L: the poll is in c(max(L - 2, 0)). -/
  | fixed
  /-- A conditional branch that is taken when flag `f` has the value `v`. -/
  | branch (f : Flag) (v : Bool)
  /-- An indexed read that adds the index `i` in cycle `k`. -/
  | indexed (k : Nat) (i : Index)
  deriving DecidableEq, Repr

/-- A table entry: its actions from c1 on (c0 is the same in every entry, R133) and its poll point. -/
structure Entry where
  polls  : PollPoint
  cycles : List MicroOp

/-- The table length L of an entry (R58, R132). -/
def Entry.length (e : Entry) : Nat := e.cycles.length + 1

/-- Whether the cycle `k` that has just run, leaving `s`, is the poll point; `ended` says that it executed `EndInstruction`
(R137 row by row; R138 under `TABLE`). Each choice is made from what the polling cycle knows. -/
def Entry.pollsAt (e : Entry) (k : Nat) (s : State) (ended : Bool) : Bool :=
  match Config.pollRule, e.polls with
  | _, .never => false
  | .table, _ => k == e.length - 2
  | .actual, .fixed => k == e.length - 2
  | .actual, .branch f v =>
    match k with
    | 0 => s.flag f != v
    | 1 => !ended && !branchCross s.pcl s.operand
    | 2 => !ended
    | _ => false
  | .actual, .indexed k₀ i => (k == k₀ && !s.crossed i) || (k == k₀ + 1 && !ended)

/-- What `Tick` does after the action of cycle `k` (R131): the poll, then the advance of OpCodeCycle. -/
def Entry.advance (e : Entry) (k : Nat) (s : State) (ended : Bool) : State :=
  let s := if e.pollsAt k s ended then s.poll else s
  { s with opCodeCycle := if ended || k + 1 == e.length then 0 else k + 1 }

/-- Runs the actions from cycle `k` on, each as a `Tick` runs it, up to the last or to `EndInstruction` (R131, R134). -/
def Entry.runFrom (e : Entry) : Nat → List MicroOp → State → State
  | _, [], s => s
  | k, action :: rest, s =>
    let r := action s
    let s := e.advance k r.1 r.2
    if r.2 then s else e.runFrom (k + 1) rest s

/-- Cycle c0 and the cycles after it: `c0` is the state that c0's action leaves (R131, R135). -/
def Entry.run (e : Entry) (c0 : State) : State := e.runFrom 1 e.cycles (e.advance 0 c0 false)

/-- The fetch of c0 (R133, last branch): `OpCode <- MemRead(PC); PC <- PC + 1`, where the byte read is `op`. -/
def State.fetchOpcode (s : State) (op : Byte) : State :=
  { s with opCode := .op op, past := s.history, bus := [.read s.pc op] }.incPc

/-- The instruction with opcode byte `op` and table entry `e`, from its c0 to its last cycle (R135). -/
def runInstr (op : Byte) (e : Entry) (s : State) : Answer := .next (e.run (s.fetchOpcode op))

/-- A pending request that c0 dispatches: an NMI, or an IRQ while I is 0 (R133). -/
def State.interruptPending (s : State) : Bool := s.nmiSignal || (s.irqSignal && !s.flag .i)

/-- The dispatch of c0 to an interrupt sequence (R133): NMI first; the read at PC is a dummy, PC stays. It clears NMISignal
and leaves NMIEdgeDetector alone, so an edge recorded between the latching poll and this c0, while NMISignal is pending, is
kept and gives a second NMI. R384 says so of an edge after the latching poll, but also that an edge recorded while NMISignal
is pending merges with it, and D15 counts such an edge as lost. DESIGN CHOICE, unsafe: log 25. -/
def State.dispatchInterrupt (s : State) : State :=
  let s := { s with past := s.history, bus := [.read s.pc (s.peek s.pc)] }
  if s.nmiSignal then { s with nmiSignal := false, opCode := .nmiSequence } else { s with opCode := .irqSequence }

/-- Taking an interrupt, from its first push to its vector (R387, and R284 for BRK): push PCH, PCL and P with the B bit
`bPush`, set I, load PC from `vector` and the byte after it. -/
def interruptTail (bPush : Bool) (vector : Addr) : List MicroOp :=
  [cycle fun s => s.push s.pch,
   cycle fun s => s.push s.pcl,
   cycle fun s => (s.push (s.statusImage bPush)).setFlag .i true,
   cycle fun s => { s.readCycle vector with pcl := s.peek vector },
   cycle fun s => { s.readCycle (vector + 1) with pch := s.peek (vector + 1) }]

/-- The interrupt sequences (R167): entries 256 and 257 from c1, a dummy read at PC and the tail. -/
def interruptEntry (vector : Addr) : Entry :=
  { polls := .never, cycles := (cycle fun s => s.readCycle s.pc) :: interruptTail false vector }

/-- The IRQ and BRK vector (R78). -/
def irqVector : Addr := 0xFFFE

/-- The NMI vector (R78). -/
def nmiVector : Addr := 0xFFFA

/-- The reset vector (R78). -/
def resetVector : Addr := 0xFFFC

/-- Takes the pending interrupt: the whole sequence from the dispatching c0 (R133, R167). -/
def State.takeInterrupt (s : State) : State :=
  (interruptEntry (if s.nmiSignal then nmiVector else irqVector)).run s.dispatchInterrupt

/-- Returning from an interrupt, the cycles of RTI from c2 (R163, R392): pull P, PCL and PCH. -/
def returnTail : List MicroOp :=
  [cycle fun s => s.readStackAndRaise,
   cycle fun s => (s.readStackAndRaise).setStatus (s.peek s.stackAddr),
   cycle fun s => { s.readStackAndRaise with pcl := s.peek s.stackAddr },
   cycle fun s => { s.readCycle s.stackAddr with pch := s.peek s.stackAddr }]

/-- Construction on an environment that has seen the accesses `past` (R397, R420, R421): the values of R60, then the two
reads of the reset vector, low byte first. The environment is taken as it stands: its regions keep their bytes, and its
devices answer from the accesses they have seen, these two reads after them (R423). -/
def State.construct (platform : Platform) (past : List BusAccess) (decimalEnabled : Bool) : State :=
  let s : State := { State.reset with platform := platform, decimalEnabled := decimalEnabled, past := past, bus := [] }
  let s := { s.readCycle resetVector with pcl := s.peek resetVector }
  { s.readCycle (resetVector + 1) with pch := s.peek (resetVector + 1) }

/-- A reset (R423): the host constructs a new CORE on the environment of this one, with the memory and the devices as this
CORE has left them. -/
def State.reconstruct (s : State) (decimalEnabled : Bool) : State := State.construct s.platform s.history decimalEnabled

end Sys2Proof.Machine
end

