-- ==== Sys2Proof/Machine/Operands.lean ====
section
/-! DEFINITION. Every operand form: the addresses of R104 that need no memory, and the addressing-mode cycle sequences R142 to R156 with the ways an instruction's operation is carried by them. -/

namespace Sys2Proof.Machine

/-- Where the operand bytes of an instruction come from: the bus at PC, as `Tick` reads them, or the instruction that
`exec` is given, whose bytes stand at PC. Log 7. -/
inductive Fetch where
  | live
  | given (b1 b2 : Byte)
  deriving DecidableEq, Repr

/-- The first operand byte, when PC points at it. -/
def Fetch.first : Fetch → State → Byte
  | .live, s => s.peek s.pc
  | .given b _, _ => b

/-- The second operand byte, when PC points at it. -/
def Fetch.second : Fetch → State → Byte
  | .live, s => s.peek s.pc
  | .given _ b, _ => b

/-- The fetch of an 8-bit operand that an instruction carries. -/
def Fetch.byte (b : Byte) : Fetch := .given b 0

/-- The fetch of a 16-bit operand that an instruction carries, low byte first (R73). -/
def Fetch.word (w : Addr) : Fetch := .given (lo8 w) (hi8 w)

/-- The sign extension of a byte to 16 bits (R6). -/
def sext16 (b : Byte) : Addr := b.signExtend 16

/-- `MemRead(PC); PC <- PC + 1`, where the byte read is `b`. -/
def State.takeByte (s : State) (b : Byte) : State := (s.logged (.read s.pc b)).incPc

/-! The effective addresses of R104 that need no pointer, for the state before the instruction; Machine/Access.lean has them all. -/

/-- `zp`: `0x00:zp8`. -/
def eaZp (zp8 : Byte) : Addr := wordOf 0x00 zp8

/-- `zpx`, `zpy`: the index is added within page zero (R72). -/
def eaZpIndexed (i : Index) (zp8 : Byte) (s : State) : Addr := wordOf 0x00 (zp8 + i.value s)

/-- `absx`, `absy`: the index is added modulo 65536. -/
def eaAbsIndexed (i : Index) (addr16 : Addr) (s : State) : Addr := addr16 + (i.value s).setWidth 16

/-- `rel`: the target of a branch whose next instruction is at `next` (R270). -/
def branchTarget (next : Addr) (off8 : Byte) : Addr := next + sext16 off8

/-! The address cycles of the memory modes, from c1. -/

/-- c1 of `zp`, `zpx`, `zpy`: `AL <- MemRead(PC); AH <- 0x00; PC <- PC + 1` (R145, R146). -/
def fetchZpAddress (f : Fetch) : MicroOp :=
  cycle fun s => { s.takeByte (f.first s) with al := f.first s, ah := 0x00 }

/-- `AL <- MemRead(PC); PC <- PC + 1` (R147). -/
def fetchLow (f : Fetch) : MicroOp := cycle fun s => { s.takeByte (f.first s) with al := f.first s }

/-- `AH <- MemRead(PC); PC <- PC + 1` (R147). -/
def fetchHigh (f : Fetch) : MicroOp := cycle fun s => { s.takeByte (f.second s) with ah := f.second s }

/-- c2 of the absolute indexed modes: the high byte, while the index is added to AL (R148). -/
def fetchHighIndexed (f : Fetch) (i : Index) : MicroOp :=
  cycle fun s => { s.takeByte (f.second s) with ah := f.second s, al := s.al + i.value s }

/-- The dummy read at the uncorrected address, and the page fix-up (R149, R150, R154, R155). -/
def dummyReadAndFix (i : Index) : MicroOp :=
  cycle fun s => { s.readCycle s.ea with ah := if s.crossed i then s.ah + 1 else s.ah }

/-- `Operand <- MemRead(PC); PC <- PC + 1` (R152, R153). -/
def fetchPointer (f : Fetch) : MicroOp := cycle fun s => { s.takeByte (f.first s) with operand := f.first s }

/-- `AL <- MemRead(0x00:Operand)` (R152, R153). -/
def readPointerLow : MicroOp :=
  cycle fun s => { s.readCycle (eaZp s.operand) with al := s.peek (eaZp s.operand) }

/-- c4 of `izx`: the pointer's high byte, within page zero (R152). -/
def readPointerHigh : MicroOp :=
  cycle fun s => { s.readCycle (eaZp (s.operand + 1)) with ah := s.peek (eaZp (s.operand + 1)) }

/-- c3 of `izy`: the pointer's high byte, while Y is added to AL (R153). -/
def readPointerHighIndexed : MicroOp :=
  cycle fun s =>
    { s.readCycle (eaZp (s.operand + 1)) with ah := s.peek (eaZp (s.operand + 1)), al := s.al + s.y }

/-- The address cycles of `zp` (R145). -/
def addrZp (f : Fetch) : List MicroOp := [fetchZpAddress f]

/-- The address cycles of `zpx` and `zpy`: the dummy read at the unindexed address, then the wrapped addition (R146). -/
def addrZpIndexed (f : Fetch) (i : Index) : List MicroOp :=
  [fetchZpAddress f, cycle fun s => { s.readCycle s.ea with al := s.al + i.value s }]

/-- The address cycles of `abs` (R147). -/
def addrAbs (f : Fetch) : List MicroOp := [fetchLow f, fetchHigh f]

/-- The address cycles of an `absx` or `absy` write or RMW (R149, R150). -/
def addrAbsIndexed (f : Fetch) (i : Index) : List MicroOp :=
  [fetchLow f, fetchHighIndexed f i, dummyReadAndFix i]

/-- The address cycles of `izx` (R152). -/
def addrIzx (f : Fetch) : List MicroOp :=
  [fetchPointer f, cycle fun s => { s.readCycle (eaZp s.operand) with operand := s.operand + s.x },
   readPointerLow, readPointerHigh]

/-- The address cycles of an `izy` write or RMW (R154, R155). -/
def addrIzy (f : Fetch) : List MicroOp :=
  [fetchPointer f, readPointerLow, readPointerHighIndexed, dummyReadAndFix .y]

/-! How the address cycles carry an operation. -/

/-- The operation of a read instruction on the byte it fetches: `op(v)`. -/
abbrev ReadOp := Byte → State → State

/-- `v <- MemRead(EA); op(v)`. -/
def readAndApply (op : ReadOp) : MicroOp := cycle fun s => op (s.peek s.ea) (s.readCycle s.ea)

/-- The read at the uncorrected address of an indexed read (R148 c3, R153 c4): the last cycle when no page is crossed. -/
def readUncorrected (i : Index) (op : ReadOp) : MicroOp := fun s =>
  if s.crossed i then ({ s.readCycle s.ea with ah := s.ah + 1 }, false)
  else (op (s.peek s.ea) (s.readCycle s.ea), true)

/-- `MemWrite(EA, w)`. -/
def writeValue (w : State → Byte) : MicroOp := cycle fun s => s.writeCycle s.ea (w s)

/-- The RMW tail (R156): read, dummy write of the unmodified value, modify and write. -/
def rmwTail (f : Modify) : List MicroOp :=
  [cycle fun s => { s.readCycle s.ea with operand := s.peek s.ea },
   cycle fun s => s.writeCycle s.ea s.operand,
   cycle fun s => ({ (f s.operand s).2 with operand := (f s.operand s).1 }).writeCycle s.ea (f s.operand s).1]

/-- An implied instruction (R142): the dummy read at PC, and the operation. -/
def impliedSeq (op : State → State) : Entry :=
  { polls := .fixed, cycles := [cycle fun s => op (s.readCycle s.pc)] }

/-- An accumulator instruction (R143): `A <- f(A)`. -/
def accumulatorSeq (f : Modify) : Entry :=
  impliedSeq fun s => { (f s.a s).2 with a := (f s.a s).1 }

/-- An immediate instruction (R144). -/
def immediateSeq (f : Fetch) (op : ReadOp) : Entry :=
  { polls := .fixed, cycles := [cycle fun s => op (f.first s) (s.takeByte (f.first s))] }

/-- A read instruction of a mode with fixed length (R145, R146, R147, R152). -/
def readSeq (address : List MicroOp) (op : ReadOp) : Entry :=
  { polls := .fixed, cycles := address ++ [readAndApply op] }

/-- An `absx` or `absy` read (R148): 4 cycles, 5 on a page crossing. -/
def readAbsIndexedSeq (f : Fetch) (i : Index) (op : ReadOp) : Entry :=
  { polls := .indexed 2 i
    cycles := [fetchLow f, fetchHighIndexed f i, readUncorrected i op, readAndApply op] }

/-- An `izy` read (R153): 5 cycles, 6 on a page crossing. -/
def readIzySeq (f : Fetch) (op : ReadOp) : Entry :=
  { polls := .indexed 3 .y
    cycles := [fetchPointer f, readPointerLow, readPointerHighIndexed, readUncorrected .y op, readAndApply op] }

/-- A write instruction (R145, R146, R147, R149, R152, R154) that stores `w`. -/
def writeSeq (address : List MicroOp) (w : State → Byte) : Entry :=
  { polls := .fixed, cycles := address ++ [writeValue w] }

/-- A read-modify-write instruction (R145, R146, R147, R150, R152, R155). -/
def rmwSeq (address : List MicroOp) (f : Modify) : Entry :=
  { polls := .fixed, cycles := address ++ rmwTail f }

end Sys2Proof.Machine
end

