-- ==== Sys2Proof/Machine/Alu.lean ====
section
/-! DEFINITION. Addition, subtraction, logic, bit test and compare (42_alu.md, R200 to R213). -/

namespace Sys2Proof.Machine

/-- ADC's operation (R200). -/
def opAdc : ReadOp := fun v s => s.add v

/-- SBC's operation (R203). -/
def opSbc : ReadOp := fun v s => s.sub v

/-- AND's operation (R206). -/
def opAnd : ReadOp := fun v s => { s with a := s.a &&& v }.setZN (s.a &&& v)

/-- ORA's operation (R207). -/
def opOra : ReadOp := fun v s => { s with a := s.a ||| v }.setZN (s.a ||| v)

/-- EOR's operation (R208). -/
def opEor : ReadOp := fun v s => { s with a := s.a ^^^ v }.setZN (s.a ^^^ v)

/-- BIT's operation: Z from A AND v, N and V from v (R209). -/
def opBit : ReadOp := fun v s =>
  ((s.setFlag .z (s.a &&& v == 0)).setFlag .n (v.getLsbD 7)).setFlag .v (v.getLsbD 6)

/-- CMP's operation (R211). -/
def opCmp : ReadOp := fun v s => s.compare s.a v

/-- CPX's operation (R212). -/
def opCpx : ReadOp := fun v s => s.compare s.x v

/-- CPY's operation (R213). -/
def opCpy : ReadOp := fun v s => s.compare s.y v

/-- ADC (zp,X), opcode 0x61: R200, cycles of R152. -/
def entryAdcIzx (f : Fetch) : Entry := readSeq (addrIzx f) opAdc

/-- The meaning of ADC (zp,X) (0x61). -/
def execAdcIzx (ptr8 : Byte) (s : State) : Answer := runInstr 0x61 (entryAdcIzx (.byte ptr8)) s

/-- ADC zp, opcode 0x65: R200, cycles of R145. -/
def entryAdcZp (f : Fetch) : Entry := readSeq (addrZp f) opAdc

/-- The meaning of ADC zp (0x65). -/
def execAdcZp (zp8 : Byte) (s : State) : Answer := runInstr 0x65 (entryAdcZp (.byte zp8)) s

/-- ADC #, opcode 0x69: R200, cycles of R144. -/
def entryAdcImm (f : Fetch) : Entry := immediateSeq f opAdc

/-- The meaning of ADC # (0x69). -/
def execAdcImm (imm8 : Byte) (s : State) : Answer := runInstr 0x69 (entryAdcImm (.byte imm8)) s

/-- ADC abs, opcode 0x6D: R200, cycles of R147. -/
def entryAdcAbs (f : Fetch) : Entry := readSeq (addrAbs f) opAdc

/-- The meaning of ADC abs (0x6D). -/
def execAdcAbs (addr16 : Addr) (s : State) : Answer := runInstr 0x6D (entryAdcAbs (.word addr16)) s

/-- ADC (zp),Y, opcode 0x71: R200, cycles of R153. -/
def entryAdcIzy (f : Fetch) : Entry := readIzySeq f opAdc

/-- The meaning of ADC (zp),Y (0x71). -/
def execAdcIzy (ptr8 : Byte) (s : State) : Answer := runInstr 0x71 (entryAdcIzy (.byte ptr8)) s

/-- ADC zp,X, opcode 0x75: R200, cycles of R146. -/
def entryAdcZpx (f : Fetch) : Entry := readSeq (addrZpIndexed f .x) opAdc

/-- The meaning of ADC zp,X (0x75). -/
def execAdcZpx (zp8 : Byte) (s : State) : Answer := runInstr 0x75 (entryAdcZpx (.byte zp8)) s

/-- ADC abs,Y, opcode 0x79: R200, cycles of R148. -/
def entryAdcAbsy (f : Fetch) : Entry := readAbsIndexedSeq f .y opAdc

/-- The meaning of ADC abs,Y (0x79). -/
def execAdcAbsy (addr16 : Addr) (s : State) : Answer := runInstr 0x79 (entryAdcAbsy (.word addr16)) s

/-- ADC abs,X, opcode 0x7D: R200, cycles of R148. -/
def entryAdcAbsx (f : Fetch) : Entry := readAbsIndexedSeq f .x opAdc

/-- The meaning of ADC abs,X (0x7D). -/
def execAdcAbsx (addr16 : Addr) (s : State) : Answer := runInstr 0x7D (entryAdcAbsx (.word addr16)) s

/-- SBC (zp,X), opcode 0xE1: R203, cycles of R152. -/
def entrySbcIzx (f : Fetch) : Entry := readSeq (addrIzx f) opSbc

/-- The meaning of SBC (zp,X) (0xE1). -/
def execSbcIzx (ptr8 : Byte) (s : State) : Answer := runInstr 0xE1 (entrySbcIzx (.byte ptr8)) s

/-- SBC zp, opcode 0xE5: R203, cycles of R145. -/
def entrySbcZp (f : Fetch) : Entry := readSeq (addrZp f) opSbc

/-- The meaning of SBC zp (0xE5). -/
def execSbcZp (zp8 : Byte) (s : State) : Answer := runInstr 0xE5 (entrySbcZp (.byte zp8)) s

/-- SBC #, opcode 0xE9: R203, cycles of R144. -/
def entrySbcImm (f : Fetch) : Entry := immediateSeq f opSbc

/-- The meaning of SBC # (0xE9). -/
def execSbcImm (imm8 : Byte) (s : State) : Answer := runInstr 0xE9 (entrySbcImm (.byte imm8)) s

/-- SBC abs, opcode 0xED: R203, cycles of R147. -/
def entrySbcAbs (f : Fetch) : Entry := readSeq (addrAbs f) opSbc

/-- The meaning of SBC abs (0xED). -/
def execSbcAbs (addr16 : Addr) (s : State) : Answer := runInstr 0xED (entrySbcAbs (.word addr16)) s

/-- SBC (zp),Y, opcode 0xF1: R203, cycles of R153. -/
def entrySbcIzy (f : Fetch) : Entry := readIzySeq f opSbc

/-- The meaning of SBC (zp),Y (0xF1). -/
def execSbcIzy (ptr8 : Byte) (s : State) : Answer := runInstr 0xF1 (entrySbcIzy (.byte ptr8)) s

/-- SBC zp,X, opcode 0xF5: R203, cycles of R146. -/
def entrySbcZpx (f : Fetch) : Entry := readSeq (addrZpIndexed f .x) opSbc

/-- The meaning of SBC zp,X (0xF5). -/
def execSbcZpx (zp8 : Byte) (s : State) : Answer := runInstr 0xF5 (entrySbcZpx (.byte zp8)) s

/-- SBC abs,Y, opcode 0xF9: R203, cycles of R148. -/
def entrySbcAbsy (f : Fetch) : Entry := readAbsIndexedSeq f .y opSbc

/-- The meaning of SBC abs,Y (0xF9). -/
def execSbcAbsy (addr16 : Addr) (s : State) : Answer := runInstr 0xF9 (entrySbcAbsy (.word addr16)) s

/-- SBC abs,X, opcode 0xFD: R203, cycles of R148. -/
def entrySbcAbsx (f : Fetch) : Entry := readAbsIndexedSeq f .x opSbc

/-- The meaning of SBC abs,X (0xFD). -/
def execSbcAbsx (addr16 : Addr) (s : State) : Answer := runInstr 0xFD (entrySbcAbsx (.word addr16)) s

/-- AND (zp,X), opcode 0x21: R206, cycles of R152. -/
def entryAndIzx (f : Fetch) : Entry := readSeq (addrIzx f) opAnd

/-- The meaning of AND (zp,X) (0x21). -/
def execAndIzx (ptr8 : Byte) (s : State) : Answer := runInstr 0x21 (entryAndIzx (.byte ptr8)) s

/-- AND zp, opcode 0x25: R206, cycles of R145. -/
def entryAndZp (f : Fetch) : Entry := readSeq (addrZp f) opAnd

/-- The meaning of AND zp (0x25). -/
def execAndZp (zp8 : Byte) (s : State) : Answer := runInstr 0x25 (entryAndZp (.byte zp8)) s

/-- AND #, opcode 0x29: R206, cycles of R144. -/
def entryAndImm (f : Fetch) : Entry := immediateSeq f opAnd

/-- The meaning of AND # (0x29). -/
def execAndImm (imm8 : Byte) (s : State) : Answer := runInstr 0x29 (entryAndImm (.byte imm8)) s

/-- AND abs, opcode 0x2D: R206, cycles of R147. -/
def entryAndAbs (f : Fetch) : Entry := readSeq (addrAbs f) opAnd

/-- The meaning of AND abs (0x2D). -/
def execAndAbs (addr16 : Addr) (s : State) : Answer := runInstr 0x2D (entryAndAbs (.word addr16)) s

/-- AND (zp),Y, opcode 0x31: R206, cycles of R153. -/
def entryAndIzy (f : Fetch) : Entry := readIzySeq f opAnd

/-- The meaning of AND (zp),Y (0x31). -/
def execAndIzy (ptr8 : Byte) (s : State) : Answer := runInstr 0x31 (entryAndIzy (.byte ptr8)) s

/-- AND zp,X, opcode 0x35: R206, cycles of R146. -/
def entryAndZpx (f : Fetch) : Entry := readSeq (addrZpIndexed f .x) opAnd

/-- The meaning of AND zp,X (0x35). -/
def execAndZpx (zp8 : Byte) (s : State) : Answer := runInstr 0x35 (entryAndZpx (.byte zp8)) s

/-- AND abs,Y, opcode 0x39: R206, cycles of R148. -/
def entryAndAbsy (f : Fetch) : Entry := readAbsIndexedSeq f .y opAnd

/-- The meaning of AND abs,Y (0x39). -/
def execAndAbsy (addr16 : Addr) (s : State) : Answer := runInstr 0x39 (entryAndAbsy (.word addr16)) s

/-- AND abs,X, opcode 0x3D: R206, cycles of R148. -/
def entryAndAbsx (f : Fetch) : Entry := readAbsIndexedSeq f .x opAnd

/-- The meaning of AND abs,X (0x3D). -/
def execAndAbsx (addr16 : Addr) (s : State) : Answer := runInstr 0x3D (entryAndAbsx (.word addr16)) s

/-- ORA (zp,X), opcode 0x01: R207, cycles of R152. -/
def entryOraIzx (f : Fetch) : Entry := readSeq (addrIzx f) opOra

/-- The meaning of ORA (zp,X) (0x01). -/
def execOraIzx (ptr8 : Byte) (s : State) : Answer := runInstr 0x01 (entryOraIzx (.byte ptr8)) s

/-- ORA zp, opcode 0x05: R207, cycles of R145. -/
def entryOraZp (f : Fetch) : Entry := readSeq (addrZp f) opOra

/-- The meaning of ORA zp (0x05). -/
def execOraZp (zp8 : Byte) (s : State) : Answer := runInstr 0x05 (entryOraZp (.byte zp8)) s

/-- ORA #, opcode 0x09: R207, cycles of R144. -/
def entryOraImm (f : Fetch) : Entry := immediateSeq f opOra

/-- The meaning of ORA # (0x09). -/
def execOraImm (imm8 : Byte) (s : State) : Answer := runInstr 0x09 (entryOraImm (.byte imm8)) s

/-- ORA abs, opcode 0x0D: R207, cycles of R147. -/
def entryOraAbs (f : Fetch) : Entry := readSeq (addrAbs f) opOra

/-- The meaning of ORA abs (0x0D). -/
def execOraAbs (addr16 : Addr) (s : State) : Answer := runInstr 0x0D (entryOraAbs (.word addr16)) s

/-- ORA (zp),Y, opcode 0x11: R207, cycles of R153. -/
def entryOraIzy (f : Fetch) : Entry := readIzySeq f opOra

/-- The meaning of ORA (zp),Y (0x11). -/
def execOraIzy (ptr8 : Byte) (s : State) : Answer := runInstr 0x11 (entryOraIzy (.byte ptr8)) s

/-- ORA zp,X, opcode 0x15: R207, cycles of R146. -/
def entryOraZpx (f : Fetch) : Entry := readSeq (addrZpIndexed f .x) opOra

/-- The meaning of ORA zp,X (0x15). -/
def execOraZpx (zp8 : Byte) (s : State) : Answer := runInstr 0x15 (entryOraZpx (.byte zp8)) s

/-- ORA abs,Y, opcode 0x19: R207, cycles of R148. -/
def entryOraAbsy (f : Fetch) : Entry := readAbsIndexedSeq f .y opOra

/-- The meaning of ORA abs,Y (0x19). -/
def execOraAbsy (addr16 : Addr) (s : State) : Answer := runInstr 0x19 (entryOraAbsy (.word addr16)) s

/-- ORA abs,X, opcode 0x1D: R207, cycles of R148. -/
def entryOraAbsx (f : Fetch) : Entry := readAbsIndexedSeq f .x opOra

/-- The meaning of ORA abs,X (0x1D). -/
def execOraAbsx (addr16 : Addr) (s : State) : Answer := runInstr 0x1D (entryOraAbsx (.word addr16)) s

/-- EOR (zp,X), opcode 0x41: R208, cycles of R152. -/
def entryEorIzx (f : Fetch) : Entry := readSeq (addrIzx f) opEor

/-- The meaning of EOR (zp,X) (0x41). -/
def execEorIzx (ptr8 : Byte) (s : State) : Answer := runInstr 0x41 (entryEorIzx (.byte ptr8)) s

/-- EOR zp, opcode 0x45: R208, cycles of R145. -/
def entryEorZp (f : Fetch) : Entry := readSeq (addrZp f) opEor

/-- The meaning of EOR zp (0x45). -/
def execEorZp (zp8 : Byte) (s : State) : Answer := runInstr 0x45 (entryEorZp (.byte zp8)) s

/-- EOR #, opcode 0x49: R208, cycles of R144. -/
def entryEorImm (f : Fetch) : Entry := immediateSeq f opEor

/-- The meaning of EOR # (0x49). -/
def execEorImm (imm8 : Byte) (s : State) : Answer := runInstr 0x49 (entryEorImm (.byte imm8)) s

/-- EOR abs, opcode 0x4D: R208, cycles of R147. -/
def entryEorAbs (f : Fetch) : Entry := readSeq (addrAbs f) opEor

/-- The meaning of EOR abs (0x4D). -/
def execEorAbs (addr16 : Addr) (s : State) : Answer := runInstr 0x4D (entryEorAbs (.word addr16)) s

/-- EOR (zp),Y, opcode 0x51: R208, cycles of R153. -/
def entryEorIzy (f : Fetch) : Entry := readIzySeq f opEor

/-- The meaning of EOR (zp),Y (0x51). -/
def execEorIzy (ptr8 : Byte) (s : State) : Answer := runInstr 0x51 (entryEorIzy (.byte ptr8)) s

/-- EOR zp,X, opcode 0x55: R208, cycles of R146. -/
def entryEorZpx (f : Fetch) : Entry := readSeq (addrZpIndexed f .x) opEor

/-- The meaning of EOR zp,X (0x55). -/
def execEorZpx (zp8 : Byte) (s : State) : Answer := runInstr 0x55 (entryEorZpx (.byte zp8)) s

/-- EOR abs,Y, opcode 0x59: R208, cycles of R148. -/
def entryEorAbsy (f : Fetch) : Entry := readAbsIndexedSeq f .y opEor

/-- The meaning of EOR abs,Y (0x59). -/
def execEorAbsy (addr16 : Addr) (s : State) : Answer := runInstr 0x59 (entryEorAbsy (.word addr16)) s

/-- EOR abs,X, opcode 0x5D: R208, cycles of R148. -/
def entryEorAbsx (f : Fetch) : Entry := readAbsIndexedSeq f .x opEor

/-- The meaning of EOR abs,X (0x5D). -/
def execEorAbsx (addr16 : Addr) (s : State) : Answer := runInstr 0x5D (entryEorAbsx (.word addr16)) s

/-- BIT zp, opcode 0x24: R209, cycles of R145. -/
def entryBitZp (f : Fetch) : Entry := readSeq (addrZp f) opBit

/-- The meaning of BIT zp (0x24). -/
def execBitZp (zp8 : Byte) (s : State) : Answer := runInstr 0x24 (entryBitZp (.byte zp8)) s

/-- BIT abs, opcode 0x2C: R209, cycles of R147. -/
def entryBitAbs (f : Fetch) : Entry := readSeq (addrAbs f) opBit

/-- The meaning of BIT abs (0x2C). -/
def execBitAbs (addr16 : Addr) (s : State) : Answer := runInstr 0x2C (entryBitAbs (.word addr16)) s

/-- CMP (zp,X), opcode 0xC1: R211, cycles of R152. -/
def entryCmpIzx (f : Fetch) : Entry := readSeq (addrIzx f) opCmp

/-- The meaning of CMP (zp,X) (0xC1). -/
def execCmpIzx (ptr8 : Byte) (s : State) : Answer := runInstr 0xC1 (entryCmpIzx (.byte ptr8)) s

/-- CMP zp, opcode 0xC5: R211, cycles of R145. -/
def entryCmpZp (f : Fetch) : Entry := readSeq (addrZp f) opCmp

/-- The meaning of CMP zp (0xC5). -/
def execCmpZp (zp8 : Byte) (s : State) : Answer := runInstr 0xC5 (entryCmpZp (.byte zp8)) s

/-- CMP #, opcode 0xC9: R211, cycles of R144. -/
def entryCmpImm (f : Fetch) : Entry := immediateSeq f opCmp

/-- The meaning of CMP # (0xC9). -/
def execCmpImm (imm8 : Byte) (s : State) : Answer := runInstr 0xC9 (entryCmpImm (.byte imm8)) s

/-- CMP abs, opcode 0xCD: R211, cycles of R147. -/
def entryCmpAbs (f : Fetch) : Entry := readSeq (addrAbs f) opCmp

/-- The meaning of CMP abs (0xCD). -/
def execCmpAbs (addr16 : Addr) (s : State) : Answer := runInstr 0xCD (entryCmpAbs (.word addr16)) s

/-- CMP (zp),Y, opcode 0xD1: R211, cycles of R153. -/
def entryCmpIzy (f : Fetch) : Entry := readIzySeq f opCmp

/-- The meaning of CMP (zp),Y (0xD1). -/
def execCmpIzy (ptr8 : Byte) (s : State) : Answer := runInstr 0xD1 (entryCmpIzy (.byte ptr8)) s

/-- CMP zp,X, opcode 0xD5: R211, cycles of R146. -/
def entryCmpZpx (f : Fetch) : Entry := readSeq (addrZpIndexed f .x) opCmp

/-- The meaning of CMP zp,X (0xD5). -/
def execCmpZpx (zp8 : Byte) (s : State) : Answer := runInstr 0xD5 (entryCmpZpx (.byte zp8)) s

/-- CMP abs,Y, opcode 0xD9: R211, cycles of R148. -/
def entryCmpAbsy (f : Fetch) : Entry := readAbsIndexedSeq f .y opCmp

/-- The meaning of CMP abs,Y (0xD9). -/
def execCmpAbsy (addr16 : Addr) (s : State) : Answer := runInstr 0xD9 (entryCmpAbsy (.word addr16)) s

/-- CMP abs,X, opcode 0xDD: R211, cycles of R148. -/
def entryCmpAbsx (f : Fetch) : Entry := readAbsIndexedSeq f .x opCmp

/-- The meaning of CMP abs,X (0xDD). -/
def execCmpAbsx (addr16 : Addr) (s : State) : Answer := runInstr 0xDD (entryCmpAbsx (.word addr16)) s

/-- CPX #, opcode 0xE0: R212, cycles of R144. -/
def entryCpxImm (f : Fetch) : Entry := immediateSeq f opCpx

/-- The meaning of CPX # (0xE0). -/
def execCpxImm (imm8 : Byte) (s : State) : Answer := runInstr 0xE0 (entryCpxImm (.byte imm8)) s

/-- CPX zp, opcode 0xE4: R212, cycles of R145. -/
def entryCpxZp (f : Fetch) : Entry := readSeq (addrZp f) opCpx

/-- The meaning of CPX zp (0xE4). -/
def execCpxZp (zp8 : Byte) (s : State) : Answer := runInstr 0xE4 (entryCpxZp (.byte zp8)) s

/-- CPX abs, opcode 0xEC: R212, cycles of R147. -/
def entryCpxAbs (f : Fetch) : Entry := readSeq (addrAbs f) opCpx

/-- The meaning of CPX abs (0xEC). -/
def execCpxAbs (addr16 : Addr) (s : State) : Answer := runInstr 0xEC (entryCpxAbs (.word addr16)) s

/-- CPY #, opcode 0xC0: R213, cycles of R144. -/
def entryCpyImm (f : Fetch) : Entry := immediateSeq f opCpy

/-- The meaning of CPY # (0xC0). -/
def execCpyImm (imm8 : Byte) (s : State) : Answer := runInstr 0xC0 (entryCpyImm (.byte imm8)) s

/-- CPY zp, opcode 0xC4: R213, cycles of R145. -/
def entryCpyZp (f : Fetch) : Entry := readSeq (addrZp f) opCpy

/-- The meaning of CPY zp (0xC4). -/
def execCpyZp (zp8 : Byte) (s : State) : Answer := runInstr 0xC4 (entryCpyZp (.byte zp8)) s

/-- CPY abs, opcode 0xCC: R213, cycles of R147. -/
def entryCpyAbs (f : Fetch) : Entry := readSeq (addrAbs f) opCpy

/-- The meaning of CPY abs (0xCC). -/
def execCpyAbs (addr16 : Addr) (s : State) : Answer := runInstr 0xCC (entryCpyAbs (.word addr16)) s

end Sys2Proof.Machine
end

