-- ==== Sys2Proof/Machine/Control.lean ====
section
/-! DEFINITION. Branches, jumps, subroutines, RTI and BRK (44_control.md, R270 to R284), with their cycle sequences R157 to R164. -/

namespace Sys2Proof.Machine

/-- A conditional branch, taken when the flag `on` has the value `value` (R157): 2, 3 or 4 cycles. -/
def branchSeq (f : Fetch) (on : Flag) (value : Bool) : Entry :=
  { polls := .branch on value
    cycles := [
      fun s => ({ s.takeByte (f.first s) with operand := f.first s }, s.flag on != value),
      fun s => ({ s.readCycle s.pc with pcl := s.pcl + s.operand }, !branchCross s.pcl s.operand),
      cycle fun s =>
        { s.readCycle s.pc with pch := if s.operand.toNat < 0x80 then s.pch + 1 else s.pch - 1 }] }

/-- JMP absolute (R159). -/
def jmpAbsSeq (f : Fetch) : Entry :=
  { polls := .fixed
    cycles := [
      fetchLow f,
      cycle fun s => { s.logged (.read s.pc (f.second s)) with pcl := s.al, pch := f.second s }] }

/-- JMP indirect, with the pointer that does not carry into its high byte (R160). -/
def jmpIndirectSeq (f : Fetch) : Entry :=
  { polls := .fixed
    cycles := [
      fetchLow f,
      fetchHigh f,
      cycle fun s => { s.readCycle s.ea with operand := s.peek s.ea },
      cycle fun s =>
        { s.readCycle (wordOf s.ah (s.al + 1)) with
          pcl := s.operand, pch := s.peek (wordOf s.ah (s.al + 1)) }] }

/-- JSR (R161). The high byte of the target is read from the bus in c5, after the pushes, so a JSR whose last byte lies
where it pushes reads what it pushed (R281). Log 7. -/
def jsrSeq (f : Fetch) : Entry :=
  { polls := .fixed
    cycles := [
      fetchLow f,
      cycle fun s => s.readCycle s.stackAddr,
      cycle fun s => s.push s.pch,
      cycle fun s => s.push s.pcl,
      cycle fun s => { s.readCycle s.pc with pcl := s.al, pch := s.peek s.pc }] }

/-- RTS (R162). -/
def rtsSeq : Entry :=
  { polls := .fixed
    cycles := [
      cycle fun s => s.readCycle s.pc,
      cycle fun s => s.readStackAndRaise,
      cycle fun s => { s.readStackAndRaise with pcl := s.peek s.stackAddr },
      cycle fun s => { s.readCycle s.stackAddr with pch := s.peek s.stackAddr },
      cycle fun s => (s.readCycle s.pc).incPc] }

/-- RTI (R163): a dummy read at PC and the shared return from an interrupt. -/
def rtiSeq : Entry := { polls := .fixed, cycles := (cycle fun s => s.readCycle s.pc) :: returnTail }

/-- BRK (R164): the padding byte is read and discarded (R111), then the shared interrupt entry with B set. BRK is one of
the entries 0 to 255, so it polls in its c5 as they do (R56, R131, R136, R137), and an NMI edge set before that cycle is
taken before the handler's first instruction (R133). R395 has an NMI that is pending during a BRK taken after that
instruction, by R393, which speaks of the IRQ and NMI sequences; here that holds of an edge set after the poll. DESIGN
CHOICE, unsafe: log 23. -/
def brkSeq : Entry :=
  { polls := .fixed, cycles := (cycle fun s => (s.readCycle s.pc).incPc) :: interruptTail true irqVector }

/-- BPL rel, opcode 0x10: R271, cycles of R157. -/
def entryBpl (f : Fetch) : Entry := branchSeq f .n false

/-- The meaning of BPL rel (0x10). -/
def execBpl (off8 : Byte) (s : State) : Answer := runInstr 0x10 (entryBpl (.byte off8)) s

/-- BMI rel, opcode 0x30: R272, cycles of R157. -/
def entryBmi (f : Fetch) : Entry := branchSeq f .n true

/-- The meaning of BMI rel (0x30). -/
def execBmi (off8 : Byte) (s : State) : Answer := runInstr 0x30 (entryBmi (.byte off8)) s

/-- BVC rel, opcode 0x50: R273, cycles of R157. -/
def entryBvc (f : Fetch) : Entry := branchSeq f .v false

/-- The meaning of BVC rel (0x50). -/
def execBvc (off8 : Byte) (s : State) : Answer := runInstr 0x50 (entryBvc (.byte off8)) s

/-- BVS rel, opcode 0x70: R274, cycles of R157. -/
def entryBvs (f : Fetch) : Entry := branchSeq f .v true

/-- The meaning of BVS rel (0x70). -/
def execBvs (off8 : Byte) (s : State) : Answer := runInstr 0x70 (entryBvs (.byte off8)) s

/-- BCC rel, opcode 0x90: R275, cycles of R157. -/
def entryBcc (f : Fetch) : Entry := branchSeq f .c false

/-- The meaning of BCC rel (0x90). -/
def execBcc (off8 : Byte) (s : State) : Answer := runInstr 0x90 (entryBcc (.byte off8)) s

/-- BCS rel, opcode 0xB0: R276, cycles of R157. -/
def entryBcs (f : Fetch) : Entry := branchSeq f .c true

/-- The meaning of BCS rel (0xB0). -/
def execBcs (off8 : Byte) (s : State) : Answer := runInstr 0xB0 (entryBcs (.byte off8)) s

/-- BNE rel, opcode 0xD0: R277, cycles of R157. -/
def entryBne (f : Fetch) : Entry := branchSeq f .z false

/-- The meaning of BNE rel (0xD0). -/
def execBne (off8 : Byte) (s : State) : Answer := runInstr 0xD0 (entryBne (.byte off8)) s

/-- BEQ rel, opcode 0xF0: R278, cycles of R157. -/
def entryBeq (f : Fetch) : Entry := branchSeq f .z true

/-- The meaning of BEQ rel (0xF0). -/
def execBeq (off8 : Byte) (s : State) : Answer := runInstr 0xF0 (entryBeq (.byte off8)) s

/-- JMP abs, opcode 0x4C: R279, cycles of R159. -/
def entryJmpAbs (f : Fetch) : Entry := jmpAbsSeq f

/-- The meaning of JMP abs (0x4C). -/
def execJmpAbs (addr16 : Addr) (s : State) : Answer := runInstr 0x4C (entryJmpAbs (.word addr16)) s

/-- JMP (abs), opcode 0x6C: R280, cycles of R160. -/
def entryJmpInd (f : Fetch) : Entry := jmpIndirectSeq f

/-- The meaning of JMP (abs) (0x6C). -/
def execJmpInd (ptr16 : Addr) (s : State) : Answer := runInstr 0x6C (entryJmpInd (.word ptr16)) s

/-- JSR abs, opcode 0x20: R281, cycles of R161. -/
def entryJsrAbs (f : Fetch) : Entry := jsrSeq f

/-- The meaning of JSR abs (0x20). -/
def execJsrAbs (addr16 : Addr) (s : State) : Answer := runInstr 0x20 (entryJsrAbs (.word addr16)) s

/-- RTS, opcode 0x60: R282, cycles of R162. -/
def entryRts : Entry := rtsSeq

/-- The meaning of RTS (0x60). -/
def execRts (s : State) : Answer := runInstr 0x60 entryRts s

/-- RTI, opcode 0x40: R283, cycles of R163. -/
def entryRti : Entry := rtiSeq

/-- The meaning of RTI (0x40). -/
def execRti (s : State) : Answer := runInstr 0x40 entryRti s

/-- BRK, opcode 0x00: R284, cycles of R164. -/
def entryBrk : Entry := brkSeq

/-- The meaning of BRK (0x00). -/
def execBrk (s : State) : Answer := runInstr 0x00 entryBrk s

end Sys2Proof.Machine
end

