-- ==== Sys2Proof/Machine/LoadStore.lean ====
section
/-! DEFINITION. Loads, stores and register transfers (41_load_store_transfer.md, R180 to R191). -/

namespace Sys2Proof.Machine

/-- LDA's operation (R180). -/
def opLda : ReadOp := fun v s => { s with a := v }.setZN v

/-- LDX's operation (R181). -/
def opLdx : ReadOp := fun v s => { s with x := v }.setZN v

/-- LDY's operation (R182). -/
def opLdy : ReadOp := fun v s => { s with y := v }.setZN v

/-- STA's stored byte (R183). -/
def valueSta : State → Byte := fun s => s.a

/-- STX's stored byte (R184). -/
def valueStx : State → Byte := fun s => s.x

/-- STY's stored byte (R185). -/
def valueSty : State → Byte := fun s => s.y

/-- TAX's operation (R186). -/
def opTax (s : State) : State := { s with x := s.a }.setZN s.a

/-- TAY's operation (R187). -/
def opTay (s : State) : State := { s with y := s.a }.setZN s.a

/-- TXA's operation (R188). -/
def opTxa (s : State) : State := { s with a := s.x }.setZN s.x

/-- TYA's operation (R189). -/
def opTya (s : State) : State := { s with a := s.y }.setZN s.y

/-- TSX's operation (R190). -/
def opTsx (s : State) : State := { s with x := s.sp }.setZN s.sp

/-- TXS's operation: the only transfer that leaves N and Z alone (R191). -/
def opTxs (s : State) : State := { s with sp := s.x }

/-- LDA (zp,X), opcode 0xA1: R180, cycles of R152. -/
def entryLdaIzx (f : Fetch) : Entry := readSeq (addrIzx f) opLda

/-- The meaning of LDA (zp,X) (0xA1). -/
def execLdaIzx (ptr8 : Byte) (s : State) : Answer := runInstr 0xA1 (entryLdaIzx (.byte ptr8)) s

/-- LDA zp, opcode 0xA5: R180, cycles of R145. -/
def entryLdaZp (f : Fetch) : Entry := readSeq (addrZp f) opLda

/-- The meaning of LDA zp (0xA5). -/
def execLdaZp (zp8 : Byte) (s : State) : Answer := runInstr 0xA5 (entryLdaZp (.byte zp8)) s

/-- LDA #, opcode 0xA9: R180, cycles of R144. -/
def entryLdaImm (f : Fetch) : Entry := immediateSeq f opLda

/-- The meaning of LDA # (0xA9). -/
def execLdaImm (imm8 : Byte) (s : State) : Answer := runInstr 0xA9 (entryLdaImm (.byte imm8)) s

/-- LDA abs, opcode 0xAD: R180, cycles of R147. -/
def entryLdaAbs (f : Fetch) : Entry := readSeq (addrAbs f) opLda

/-- The meaning of LDA abs (0xAD). -/
def execLdaAbs (addr16 : Addr) (s : State) : Answer := runInstr 0xAD (entryLdaAbs (.word addr16)) s

/-- LDA (zp),Y, opcode 0xB1: R180, cycles of R153. -/
def entryLdaIzy (f : Fetch) : Entry := readIzySeq f opLda

/-- The meaning of LDA (zp),Y (0xB1). -/
def execLdaIzy (ptr8 : Byte) (s : State) : Answer := runInstr 0xB1 (entryLdaIzy (.byte ptr8)) s

/-- LDA zp,X, opcode 0xB5: R180, cycles of R146. -/
def entryLdaZpx (f : Fetch) : Entry := readSeq (addrZpIndexed f .x) opLda

/-- The meaning of LDA zp,X (0xB5). -/
def execLdaZpx (zp8 : Byte) (s : State) : Answer := runInstr 0xB5 (entryLdaZpx (.byte zp8)) s

/-- LDA abs,Y, opcode 0xB9: R180, cycles of R148. -/
def entryLdaAbsy (f : Fetch) : Entry := readAbsIndexedSeq f .y opLda

/-- The meaning of LDA abs,Y (0xB9). -/
def execLdaAbsy (addr16 : Addr) (s : State) : Answer := runInstr 0xB9 (entryLdaAbsy (.word addr16)) s

/-- LDA abs,X, opcode 0xBD: R180, cycles of R148. -/
def entryLdaAbsx (f : Fetch) : Entry := readAbsIndexedSeq f .x opLda

/-- The meaning of LDA abs,X (0xBD). -/
def execLdaAbsx (addr16 : Addr) (s : State) : Answer := runInstr 0xBD (entryLdaAbsx (.word addr16)) s

/-- LDX #, opcode 0xA2: R181, cycles of R144. -/
def entryLdxImm (f : Fetch) : Entry := immediateSeq f opLdx

/-- The meaning of LDX # (0xA2). -/
def execLdxImm (imm8 : Byte) (s : State) : Answer := runInstr 0xA2 (entryLdxImm (.byte imm8)) s

/-- LDX zp, opcode 0xA6: R181, cycles of R145. -/
def entryLdxZp (f : Fetch) : Entry := readSeq (addrZp f) opLdx

/-- The meaning of LDX zp (0xA6). -/
def execLdxZp (zp8 : Byte) (s : State) : Answer := runInstr 0xA6 (entryLdxZp (.byte zp8)) s

/-- LDX abs, opcode 0xAE: R181, cycles of R147. -/
def entryLdxAbs (f : Fetch) : Entry := readSeq (addrAbs f) opLdx

/-- The meaning of LDX abs (0xAE). -/
def execLdxAbs (addr16 : Addr) (s : State) : Answer := runInstr 0xAE (entryLdxAbs (.word addr16)) s

/-- LDX zp,Y, opcode 0xB6: R181, cycles of R146. -/
def entryLdxZpy (f : Fetch) : Entry := readSeq (addrZpIndexed f .y) opLdx

/-- The meaning of LDX zp,Y (0xB6). -/
def execLdxZpy (zp8 : Byte) (s : State) : Answer := runInstr 0xB6 (entryLdxZpy (.byte zp8)) s

/-- LDX abs,Y, opcode 0xBE: R181, cycles of R148. -/
def entryLdxAbsy (f : Fetch) : Entry := readAbsIndexedSeq f .y opLdx

/-- The meaning of LDX abs,Y (0xBE). -/
def execLdxAbsy (addr16 : Addr) (s : State) : Answer := runInstr 0xBE (entryLdxAbsy (.word addr16)) s

/-- LDY #, opcode 0xA0: R182, cycles of R144. -/
def entryLdyImm (f : Fetch) : Entry := immediateSeq f opLdy

/-- The meaning of LDY # (0xA0). -/
def execLdyImm (imm8 : Byte) (s : State) : Answer := runInstr 0xA0 (entryLdyImm (.byte imm8)) s

/-- LDY zp, opcode 0xA4: R182, cycles of R145. -/
def entryLdyZp (f : Fetch) : Entry := readSeq (addrZp f) opLdy

/-- The meaning of LDY zp (0xA4). -/
def execLdyZp (zp8 : Byte) (s : State) : Answer := runInstr 0xA4 (entryLdyZp (.byte zp8)) s

/-- LDY abs, opcode 0xAC: R182, cycles of R147. -/
def entryLdyAbs (f : Fetch) : Entry := readSeq (addrAbs f) opLdy

/-- The meaning of LDY abs (0xAC). -/
def execLdyAbs (addr16 : Addr) (s : State) : Answer := runInstr 0xAC (entryLdyAbs (.word addr16)) s

/-- LDY zp,X, opcode 0xB4: R182, cycles of R146. -/
def entryLdyZpx (f : Fetch) : Entry := readSeq (addrZpIndexed f .x) opLdy

/-- The meaning of LDY zp,X (0xB4). -/
def execLdyZpx (zp8 : Byte) (s : State) : Answer := runInstr 0xB4 (entryLdyZpx (.byte zp8)) s

/-- LDY abs,X, opcode 0xBC: R182, cycles of R148. -/
def entryLdyAbsx (f : Fetch) : Entry := readAbsIndexedSeq f .x opLdy

/-- The meaning of LDY abs,X (0xBC). -/
def execLdyAbsx (addr16 : Addr) (s : State) : Answer := runInstr 0xBC (entryLdyAbsx (.word addr16)) s

/-- STA (zp,X), opcode 0x81: R183, cycles of R152. -/
def entryStaIzx (f : Fetch) : Entry := writeSeq (addrIzx f) valueSta

/-- The meaning of STA (zp,X) (0x81). -/
def execStaIzx (ptr8 : Byte) (s : State) : Answer := runInstr 0x81 (entryStaIzx (.byte ptr8)) s

/-- STA zp, opcode 0x85: R183, cycles of R145. -/
def entryStaZp (f : Fetch) : Entry := writeSeq (addrZp f) valueSta

/-- The meaning of STA zp (0x85). -/
def execStaZp (zp8 : Byte) (s : State) : Answer := runInstr 0x85 (entryStaZp (.byte zp8)) s

/-- STA abs, opcode 0x8D: R183, cycles of R147. -/
def entryStaAbs (f : Fetch) : Entry := writeSeq (addrAbs f) valueSta

/-- The meaning of STA abs (0x8D). -/
def execStaAbs (addr16 : Addr) (s : State) : Answer := runInstr 0x8D (entryStaAbs (.word addr16)) s

/-- STA (zp),Y, opcode 0x91: R183, cycles of R154. -/
def entryStaIzy (f : Fetch) : Entry := writeSeq (addrIzy f) valueSta

/-- The meaning of STA (zp),Y (0x91). -/
def execStaIzy (ptr8 : Byte) (s : State) : Answer := runInstr 0x91 (entryStaIzy (.byte ptr8)) s

/-- STA zp,X, opcode 0x95: R183, cycles of R146. -/
def entryStaZpx (f : Fetch) : Entry := writeSeq (addrZpIndexed f .x) valueSta

/-- The meaning of STA zp,X (0x95). -/
def execStaZpx (zp8 : Byte) (s : State) : Answer := runInstr 0x95 (entryStaZpx (.byte zp8)) s

/-- STA abs,Y, opcode 0x99: R183, cycles of R149. -/
def entryStaAbsy (f : Fetch) : Entry := writeSeq (addrAbsIndexed f .y) valueSta

/-- The meaning of STA abs,Y (0x99). -/
def execStaAbsy (addr16 : Addr) (s : State) : Answer := runInstr 0x99 (entryStaAbsy (.word addr16)) s

/-- STA abs,X, opcode 0x9D: R183, cycles of R149. -/
def entryStaAbsx (f : Fetch) : Entry := writeSeq (addrAbsIndexed f .x) valueSta

/-- The meaning of STA abs,X (0x9D). -/
def execStaAbsx (addr16 : Addr) (s : State) : Answer := runInstr 0x9D (entryStaAbsx (.word addr16)) s

/-- STX zp, opcode 0x86: R184, cycles of R145. -/
def entryStxZp (f : Fetch) : Entry := writeSeq (addrZp f) valueStx

/-- The meaning of STX zp (0x86). -/
def execStxZp (zp8 : Byte) (s : State) : Answer := runInstr 0x86 (entryStxZp (.byte zp8)) s

/-- STX abs, opcode 0x8E: R184, cycles of R147. -/
def entryStxAbs (f : Fetch) : Entry := writeSeq (addrAbs f) valueStx

/-- The meaning of STX abs (0x8E). -/
def execStxAbs (addr16 : Addr) (s : State) : Answer := runInstr 0x8E (entryStxAbs (.word addr16)) s

/-- STX zp,Y, opcode 0x96: R184, cycles of R146. -/
def entryStxZpy (f : Fetch) : Entry := writeSeq (addrZpIndexed f .y) valueStx

/-- The meaning of STX zp,Y (0x96). -/
def execStxZpy (zp8 : Byte) (s : State) : Answer := runInstr 0x96 (entryStxZpy (.byte zp8)) s

/-- STY zp, opcode 0x84: R185, cycles of R145. -/
def entryStyZp (f : Fetch) : Entry := writeSeq (addrZp f) valueSty

/-- The meaning of STY zp (0x84). -/
def execStyZp (zp8 : Byte) (s : State) : Answer := runInstr 0x84 (entryStyZp (.byte zp8)) s

/-- STY abs, opcode 0x8C: R185, cycles of R147. -/
def entryStyAbs (f : Fetch) : Entry := writeSeq (addrAbs f) valueSty

/-- The meaning of STY abs (0x8C). -/
def execStyAbs (addr16 : Addr) (s : State) : Answer := runInstr 0x8C (entryStyAbs (.word addr16)) s

/-- STY zp,X, opcode 0x94: R185, cycles of R146. -/
def entryStyZpx (f : Fetch) : Entry := writeSeq (addrZpIndexed f .x) valueSty

/-- The meaning of STY zp,X (0x94). -/
def execStyZpx (zp8 : Byte) (s : State) : Answer := runInstr 0x94 (entryStyZpx (.byte zp8)) s

/-- TAX, opcode 0xAA: R186, cycles of R142. -/
def entryTax : Entry := impliedSeq opTax

/-- The meaning of TAX (0xAA). -/
def execTax (s : State) : Answer := runInstr 0xAA entryTax s

/-- TAY, opcode 0xA8: R187, cycles of R142. -/
def entryTay : Entry := impliedSeq opTay

/-- The meaning of TAY (0xA8). -/
def execTay (s : State) : Answer := runInstr 0xA8 entryTay s

/-- TXA, opcode 0x8A: R188, cycles of R142. -/
def entryTxa : Entry := impliedSeq opTxa

/-- The meaning of TXA (0x8A). -/
def execTxa (s : State) : Answer := runInstr 0x8A entryTxa s

/-- TYA, opcode 0x98: R189, cycles of R142. -/
def entryTya : Entry := impliedSeq opTya

/-- The meaning of TYA (0x98). -/
def execTya (s : State) : Answer := runInstr 0x98 entryTya s

/-- TSX, opcode 0xBA: R190, cycles of R142. -/
def entryTsx : Entry := impliedSeq opTsx

/-- The meaning of TSX (0xBA). -/
def execTsx (s : State) : Answer := runInstr 0xBA entryTsx s

/-- TXS, opcode 0x9A: R191, cycles of R142. -/
def entryTxs : Entry := impliedSeq opTxs

/-- The meaning of TXS (0x9A). -/
def execTxs (s : State) : Answer := runInstr 0x9A entryTxs s

end Sys2Proof.Machine
end

