-- ==== Sys2Proof/Machine/Shift.lean ====
section
/-! DEFINITION. Shifts, rotates, increments and decrements (43_shift_incdec.md, R240 to R254). -/

namespace Sys2Proof.Machine

/-- INX's operation (R251). -/
def opInx (s : State) : State := { s with x := s.x + 1 }.setZN (s.x + 1)

/-- INY's operation (R252). -/
def opIny (s : State) : State := { s with y := s.y + 1 }.setZN (s.y + 1)

/-- DEX's operation (R253). -/
def opDex (s : State) : State := { s with x := s.x - 1 }.setZN (s.x - 1)

/-- DEY's operation (R254). -/
def opDey (s : State) : State := { s with y := s.y - 1 }.setZN (s.y - 1)

/-- ASL zp, opcode 0x06: R242, cycles of R145. -/
def entryAslZp (f : Fetch) : Entry := rmwSeq (addrZp f) aslByte

/-- The meaning of ASL zp (0x06). -/
def execAslZp (zp8 : Byte) (s : State) : Answer := runInstr 0x06 (entryAslZp (.byte zp8)) s

/-- ASL A, opcode 0x0A: R241, cycles of R143. -/
def entryAslAcc : Entry := accumulatorSeq aslByte

/-- The meaning of ASL (0x0A). -/
def execAslAcc (s : State) : Answer := runInstr 0x0A entryAslAcc s

/-- ASL abs, opcode 0x0E: R242, cycles of R147. -/
def entryAslAbs (f : Fetch) : Entry := rmwSeq (addrAbs f) aslByte

/-- The meaning of ASL abs (0x0E). -/
def execAslAbs (addr16 : Addr) (s : State) : Answer := runInstr 0x0E (entryAslAbs (.word addr16)) s

/-- ASL zp,X, opcode 0x16: R242, cycles of R146. -/
def entryAslZpx (f : Fetch) : Entry := rmwSeq (addrZpIndexed f .x) aslByte

/-- The meaning of ASL zp,X (0x16). -/
def execAslZpx (zp8 : Byte) (s : State) : Answer := runInstr 0x16 (entryAslZpx (.byte zp8)) s

/-- ASL abs,X, opcode 0x1E: R242, cycles of R150. -/
def entryAslAbsx (f : Fetch) : Entry := rmwSeq (addrAbsIndexed f .x) aslByte

/-- The meaning of ASL abs,X (0x1E). -/
def execAslAbsx (addr16 : Addr) (s : State) : Answer := runInstr 0x1E (entryAslAbsx (.word addr16)) s

/-- LSR zp, opcode 0x46: R244, cycles of R145. -/
def entryLsrZp (f : Fetch) : Entry := rmwSeq (addrZp f) lsrByte

/-- The meaning of LSR zp (0x46). -/
def execLsrZp (zp8 : Byte) (s : State) : Answer := runInstr 0x46 (entryLsrZp (.byte zp8)) s

/-- LSR A, opcode 0x4A: R243, cycles of R143. -/
def entryLsrAcc : Entry := accumulatorSeq lsrByte

/-- The meaning of LSR (0x4A). -/
def execLsrAcc (s : State) : Answer := runInstr 0x4A entryLsrAcc s

/-- LSR abs, opcode 0x4E: R244, cycles of R147. -/
def entryLsrAbs (f : Fetch) : Entry := rmwSeq (addrAbs f) lsrByte

/-- The meaning of LSR abs (0x4E). -/
def execLsrAbs (addr16 : Addr) (s : State) : Answer := runInstr 0x4E (entryLsrAbs (.word addr16)) s

/-- LSR zp,X, opcode 0x56: R244, cycles of R146. -/
def entryLsrZpx (f : Fetch) : Entry := rmwSeq (addrZpIndexed f .x) lsrByte

/-- The meaning of LSR zp,X (0x56). -/
def execLsrZpx (zp8 : Byte) (s : State) : Answer := runInstr 0x56 (entryLsrZpx (.byte zp8)) s

/-- LSR abs,X, opcode 0x5E: R244, cycles of R150. -/
def entryLsrAbsx (f : Fetch) : Entry := rmwSeq (addrAbsIndexed f .x) lsrByte

/-- The meaning of LSR abs,X (0x5E). -/
def execLsrAbsx (addr16 : Addr) (s : State) : Answer := runInstr 0x5E (entryLsrAbsx (.word addr16)) s

/-- ROL zp, opcode 0x26: R246, cycles of R145. -/
def entryRolZp (f : Fetch) : Entry := rmwSeq (addrZp f) rolByte

/-- The meaning of ROL zp (0x26). -/
def execRolZp (zp8 : Byte) (s : State) : Answer := runInstr 0x26 (entryRolZp (.byte zp8)) s

/-- ROL A, opcode 0x2A: R245, cycles of R143. -/
def entryRolAcc : Entry := accumulatorSeq rolByte

/-- The meaning of ROL (0x2A). -/
def execRolAcc (s : State) : Answer := runInstr 0x2A entryRolAcc s

/-- ROL abs, opcode 0x2E: R246, cycles of R147. -/
def entryRolAbs (f : Fetch) : Entry := rmwSeq (addrAbs f) rolByte

/-- The meaning of ROL abs (0x2E). -/
def execRolAbs (addr16 : Addr) (s : State) : Answer := runInstr 0x2E (entryRolAbs (.word addr16)) s

/-- ROL zp,X, opcode 0x36: R246, cycles of R146. -/
def entryRolZpx (f : Fetch) : Entry := rmwSeq (addrZpIndexed f .x) rolByte

/-- The meaning of ROL zp,X (0x36). -/
def execRolZpx (zp8 : Byte) (s : State) : Answer := runInstr 0x36 (entryRolZpx (.byte zp8)) s

/-- ROL abs,X, opcode 0x3E: R246, cycles of R150. -/
def entryRolAbsx (f : Fetch) : Entry := rmwSeq (addrAbsIndexed f .x) rolByte

/-- The meaning of ROL abs,X (0x3E). -/
def execRolAbsx (addr16 : Addr) (s : State) : Answer := runInstr 0x3E (entryRolAbsx (.word addr16)) s

/-- ROR zp, opcode 0x66: R248, cycles of R145. -/
def entryRorZp (f : Fetch) : Entry := rmwSeq (addrZp f) rorByte

/-- The meaning of ROR zp (0x66). -/
def execRorZp (zp8 : Byte) (s : State) : Answer := runInstr 0x66 (entryRorZp (.byte zp8)) s

/-- ROR A, opcode 0x6A: R247, cycles of R143. -/
def entryRorAcc : Entry := accumulatorSeq rorByte

/-- The meaning of ROR (0x6A). -/
def execRorAcc (s : State) : Answer := runInstr 0x6A entryRorAcc s

/-- ROR abs, opcode 0x6E: R248, cycles of R147. -/
def entryRorAbs (f : Fetch) : Entry := rmwSeq (addrAbs f) rorByte

/-- The meaning of ROR abs (0x6E). -/
def execRorAbs (addr16 : Addr) (s : State) : Answer := runInstr 0x6E (entryRorAbs (.word addr16)) s

/-- ROR zp,X, opcode 0x76: R248, cycles of R146. -/
def entryRorZpx (f : Fetch) : Entry := rmwSeq (addrZpIndexed f .x) rorByte

/-- The meaning of ROR zp,X (0x76). -/
def execRorZpx (zp8 : Byte) (s : State) : Answer := runInstr 0x76 (entryRorZpx (.byte zp8)) s

/-- ROR abs,X, opcode 0x7E: R248, cycles of R150. -/
def entryRorAbsx (f : Fetch) : Entry := rmwSeq (addrAbsIndexed f .x) rorByte

/-- The meaning of ROR abs,X (0x7E). -/
def execRorAbsx (addr16 : Addr) (s : State) : Answer := runInstr 0x7E (entryRorAbsx (.word addr16)) s

/-- INC zp, opcode 0xE6: R249, cycles of R145. -/
def entryIncZp (f : Fetch) : Entry := rmwSeq (addrZp f) incByte

/-- The meaning of INC zp (0xE6). -/
def execIncZp (zp8 : Byte) (s : State) : Answer := runInstr 0xE6 (entryIncZp (.byte zp8)) s

/-- INC abs, opcode 0xEE: R249, cycles of R147. -/
def entryIncAbs (f : Fetch) : Entry := rmwSeq (addrAbs f) incByte

/-- The meaning of INC abs (0xEE). -/
def execIncAbs (addr16 : Addr) (s : State) : Answer := runInstr 0xEE (entryIncAbs (.word addr16)) s

/-- INC zp,X, opcode 0xF6: R249, cycles of R146. -/
def entryIncZpx (f : Fetch) : Entry := rmwSeq (addrZpIndexed f .x) incByte

/-- The meaning of INC zp,X (0xF6). -/
def execIncZpx (zp8 : Byte) (s : State) : Answer := runInstr 0xF6 (entryIncZpx (.byte zp8)) s

/-- INC abs,X, opcode 0xFE: R249, cycles of R150. -/
def entryIncAbsx (f : Fetch) : Entry := rmwSeq (addrAbsIndexed f .x) incByte

/-- The meaning of INC abs,X (0xFE). -/
def execIncAbsx (addr16 : Addr) (s : State) : Answer := runInstr 0xFE (entryIncAbsx (.word addr16)) s

/-- DEC zp, opcode 0xC6: R250, cycles of R145. -/
def entryDecZp (f : Fetch) : Entry := rmwSeq (addrZp f) decByte

/-- The meaning of DEC zp (0xC6). -/
def execDecZp (zp8 : Byte) (s : State) : Answer := runInstr 0xC6 (entryDecZp (.byte zp8)) s

/-- DEC abs, opcode 0xCE: R250, cycles of R147. -/
def entryDecAbs (f : Fetch) : Entry := rmwSeq (addrAbs f) decByte

/-- The meaning of DEC abs (0xCE). -/
def execDecAbs (addr16 : Addr) (s : State) : Answer := runInstr 0xCE (entryDecAbs (.word addr16)) s

/-- DEC zp,X, opcode 0xD6: R250, cycles of R146. -/
def entryDecZpx (f : Fetch) : Entry := rmwSeq (addrZpIndexed f .x) decByte

/-- The meaning of DEC zp,X (0xD6). -/
def execDecZpx (zp8 : Byte) (s : State) : Answer := runInstr 0xD6 (entryDecZpx (.byte zp8)) s

/-- DEC abs,X, opcode 0xDE: R250, cycles of R150. -/
def entryDecAbsx (f : Fetch) : Entry := rmwSeq (addrAbsIndexed f .x) decByte

/-- The meaning of DEC abs,X (0xDE). -/
def execDecAbsx (addr16 : Addr) (s : State) : Answer := runInstr 0xDE (entryDecAbsx (.word addr16)) s

/-- INX, opcode 0xE8: R251, cycles of R142. -/
def entryInx : Entry := impliedSeq opInx

/-- The meaning of INX (0xE8). -/
def execInx (s : State) : Answer := runInstr 0xE8 entryInx s

/-- INY, opcode 0xC8: R252, cycles of R142. -/
def entryIny : Entry := impliedSeq opIny

/-- The meaning of INY (0xC8). -/
def execIny (s : State) : Answer := runInstr 0xC8 entryIny s

/-- DEX, opcode 0xCA: R253, cycles of R142. -/
def entryDex : Entry := impliedSeq opDex

/-- The meaning of DEX (0xCA). -/
def execDex (s : State) : Answer := runInstr 0xCA entryDex s

/-- DEY, opcode 0x88: R254, cycles of R142. -/
def entryDey : Entry := impliedSeq opDey

/-- The meaning of DEY (0x88). -/
def execDey (s : State) : Answer := runInstr 0x88 entryDey s

end Sys2Proof.Machine
end

