-- ==== Sys2Proof/Machine/StackFlags.lean ====
section
/-! DEFINITION. Stack instructions, flag instructions and NOP (45_stack_flags_nop.md, R300 to R311). -/

namespace Sys2Proof.Machine

/-- PHA and PHP (R165): a dummy read at PC, and the push. -/
def pushSeq (w : State → Byte) : Entry :=
  { polls := .fixed, cycles := [cycle fun s => s.readCycle s.pc, cycle fun s => s.push (w s)] }

/-- PLA and PLP (R166). -/
def pullSeq (op : ReadOp) : Entry :=
  { polls := .fixed
    cycles := [
      cycle fun s => s.readCycle s.pc,
      cycle fun s => s.readStackAndRaise,
      cycle fun s => op (s.peek s.stackAddr) (s.readCycle s.stackAddr)] }

/-- PHA, opcode 0x48: R300, cycles of R165. -/
def entryPha : Entry := pushSeq fun s => s.a

/-- The meaning of PHA (0x48). -/
def execPha (s : State) : Answer := runInstr 0x48 entryPha s

/-- PHP, opcode 0x08: R301, cycles of R165. -/
def entryPhp : Entry := pushSeq fun s => s.statusImage true

/-- The meaning of PHP (0x08). -/
def execPhp (s : State) : Answer := runInstr 0x08 entryPhp s

/-- PLA, opcode 0x68: R302, cycles of R166. -/
def entryPla : Entry := pullSeq fun v s => { s with a := v }.setZN v

/-- The meaning of PLA (0x68). -/
def execPla (s : State) : Answer := runInstr 0x68 entryPla s

/-- PLP, opcode 0x28: R303, cycles of R166. -/
def entryPlp : Entry := pullSeq fun v s => s.setStatus v

/-- The meaning of PLP (0x28). -/
def execPlp (s : State) : Answer := runInstr 0x28 entryPlp s

/-- CLC, opcode 0x18: R304, cycles of R142. -/
def entryClc : Entry := impliedSeq fun s => s.setFlag .c false

/-- The meaning of CLC (0x18). -/
def execClc (s : State) : Answer := runInstr 0x18 entryClc s

/-- SEC, opcode 0x38: R305, cycles of R142. -/
def entrySec : Entry := impliedSeq fun s => s.setFlag .c true

/-- The meaning of SEC (0x38). -/
def execSec (s : State) : Answer := runInstr 0x38 entrySec s

/-- CLI, opcode 0x58: R306, cycles of R142. -/
def entryCli : Entry := impliedSeq fun s => s.setFlag .i false

/-- The meaning of CLI (0x58). -/
def execCli (s : State) : Answer := runInstr 0x58 entryCli s

/-- SEI, opcode 0x78: R307, cycles of R142. -/
def entrySei : Entry := impliedSeq fun s => s.setFlag .i true

/-- The meaning of SEI (0x78). -/
def execSei (s : State) : Answer := runInstr 0x78 entrySei s

/-- CLD, opcode 0xD8: R308, cycles of R142. -/
def entryCld : Entry := impliedSeq fun s => s.setFlag .d false

/-- The meaning of CLD (0xD8). -/
def execCld (s : State) : Answer := runInstr 0xD8 entryCld s

/-- SED, opcode 0xF8: R309, cycles of R142. -/
def entrySed : Entry := impliedSeq fun s => s.setFlag .d true

/-- The meaning of SED (0xF8). -/
def execSed (s : State) : Answer := runInstr 0xF8 entrySed s

/-- CLV, opcode 0xB8: R310, cycles of R142. -/
def entryClv : Entry := impliedSeq fun s => s.setFlag .v false

/-- The meaning of CLV (0xB8). -/
def execClv (s : State) : Answer := runInstr 0xB8 entryClv s

/-- NOP, opcode 0xEA: R311, cycles of R142. -/
def entryNop : Entry := impliedSeq id

/-- The meaning of NOP (0xEA). -/
def execNop (s : State) : Answer := runInstr 0xEA entryNop s

end Sys2Proof.Machine
end

