-- ==== Sys2Proof/Machine/Unofficial.lean ====
section
/-! DEFINITION. The unofficial opcodes (46_unofficial.md, R330 to R355): all 93 with their NMOS behaviour (log 10), and the 12 JAM slots as one-cycle no-ops (log 9). -/

namespace Sys2Proof.Machine

/-- SLO's modification (R331): shift left, then OR into A. -/
def modifySlo : Modify := fun v s =>
  let (r, s) := aslByte v s
  (r, { s with a := s.a ||| r }.setZN (s.a ||| r))

/-- RLA's modification (R332): rotate left, then AND into A. -/
def modifyRla : Modify := fun v s =>
  let (r, s) := rolByte v s
  (r, { s with a := s.a &&& r }.setZN (s.a &&& r))

/-- SRE's modification (R333): shift right, then EOR into A. -/
def modifySre : Modify := fun v s =>
  let (r, s) := lsrByte v s
  (r, { s with a := s.a ^^^ r }.setZN (s.a ^^^ r))

/-- RRA's modification (R334): rotate right, then ADD with the rotate's carry. -/
def modifyRra : Modify := fun v s =>
  let (r, s) := rorByte v s
  (r, s.add r)

/-- DCP's modification (R337): decrement, then compare with A. -/
def modifyDcp : Modify := fun v s => (v - 1, s.compare s.a (v - 1))

/-- ISC's modification (R338): increment, then SUB. -/
def modifyIsc : Modify := fun v s => (v + 1, s.sub (v + 1))

/-- SAX's stored byte (R335). -/
def valueSax : State → Byte := fun s => s.a &&& s.x

/-- LAX's operation (R336). -/
def opLax : ReadOp := fun v s => { s with a := v, x := v }.setZN v

/-- ANC's operation (R339): AND, then N into C. -/
def opAnc : ReadOp := fun v s =>
  ({ s with a := s.a &&& v }.setZN (s.a &&& v)).setFlag .c ((s.a &&& v).getLsbD 7)

/-- ALR's operation (R340): AND, then shift right. -/
def opAlr : ReadOp := fun v s =>
  let t := s.a &&& v
  ({ s with a := t >>> 1 }.setFlag .c (t.getLsbD 0)).setZN (t >>> 1)

/-- ARR's operation (R341). -/
def opArr : ReadOp := fun v s => s.arr v

/-- The byte ANE puts into A (R342), for the constant `magic`. -/
def aneValue (magic a x v : Byte) : Byte := (a ||| magic) &&& x &&& v

/-- ANE's operation (R342), for the OPEN constant of Config (log 6). -/
def opAne : ReadOp := fun v s =>
  { s with a := aneValue Config.aneMagic s.a s.x v }.setZN (aneValue Config.aneMagic s.a s.x v)

/-- The byte LXA puts into A and X (R343), for the constant `magic`. -/
def lxaValue (magic a v : Byte) : Byte := (a ||| magic) &&& v

/-- LXA's operation (R343), for the OPEN constant of Config (log 6). -/
def opLxa : ReadOp := fun v s =>
  let r := lxaValue Config.lxaMagic s.a v
  { s with a := r, x := r }.setZN r

/-- SBX's operation (R344): X gets (A AND X) minus the operand; C, Z and N as a compare, V unchanged. -/
def opSbx : ReadOp := fun v s =>
  let t := s.a &&& s.x
  { s with x := t - v }.compare t v

/-- LAS's operation (R350). -/
def opLas : ReadOp := fun v s =>
  let r := v &&& s.sp
  { s with a := r, x := r, sp := r }.setZN r

/-- The operation of the unofficial NOPs: none (R352, R353). -/
def opNop : ReadOp := fun _ s => s

/-- SHA's source (R346). -/
def sourceSha : State → Byte := fun s => s.a &&& s.x

/-- SHX's source (R347). -/
def sourceShx : State → Byte := fun s => s.x

/-- SHY's source (R348). -/
def sourceShy : State → Byte := fun s => s.y

/-- `(H + 1) mod 256` in the final cycle, where H is the base address's high byte before indexing: the fix-up has already
added 1 to AH exactly when a page was crossed (R355). Log 14. -/
def State.highPlusOne (s : State) (i : Index) : Byte := if s.crossed i then s.ah else s.ah + 1

/-- The final cycle of R355: the byte `v` is stored, and on a page crossing it also becomes the address's high byte. -/
def State.storeHigh (s : State) (i : Index) (v : Byte) : State :=
  let s := { s with ah := if s.crossed i then v else s.ah }
  s.writeCycle s.ea v

/-- SHA, SHX and SHY (R355): `src & ((H + 1) mod 256)` at the end of an indexed write sequence. -/
def shSeq (address : List MicroOp) (i : Index) (source : State → Byte) : Entry :=
  { polls := .fixed
    cycles := address ++ [cycle fun s => s.storeHigh i (source s &&& s.highPlusOne i)] }

/-- TAS (R349): S gets A AND X in the write cycle, before the stored value is formed from it. -/
def tasSeq (address : List MicroOp) : Entry :=
  { polls := .fixed
    cycles := address ++ [cycle fun s =>
      { s with sp := s.a &&& s.x }.storeHigh .y ((s.a &&& s.x) &&& s.highPlusOne .y)] }

/-- JAM (R168, R354) under STP_MODE = NOP1: the entry is c0 only. -/
def jamSeq : Entry := { polls := .fixed, cycles := [] }

/-- SLO (zp,X), opcode 0x03: R331, cycles of R152. -/
def entrySloIzx (f : Fetch) : Entry := rmwSeq (addrIzx f) modifySlo

/-- The meaning of SLO (zp,X) (0x03). -/
def execSloIzx (ptr8 : Byte) (s : State) : Answer := runInstr 0x03 (entrySloIzx (.byte ptr8)) s

/-- SLO zp, opcode 0x07: R331, cycles of R145. -/
def entrySloZp (f : Fetch) : Entry := rmwSeq (addrZp f) modifySlo

/-- The meaning of SLO zp (0x07). -/
def execSloZp (zp8 : Byte) (s : State) : Answer := runInstr 0x07 (entrySloZp (.byte zp8)) s

/-- SLO abs, opcode 0x0F: R331, cycles of R147. -/
def entrySloAbs (f : Fetch) : Entry := rmwSeq (addrAbs f) modifySlo

/-- The meaning of SLO abs (0x0F). -/
def execSloAbs (addr16 : Addr) (s : State) : Answer := runInstr 0x0F (entrySloAbs (.word addr16)) s

/-- SLO (zp),Y, opcode 0x13: R331, cycles of R155. -/
def entrySloIzy (f : Fetch) : Entry := rmwSeq (addrIzy f) modifySlo

/-- The meaning of SLO (zp),Y (0x13). -/
def execSloIzy (ptr8 : Byte) (s : State) : Answer := runInstr 0x13 (entrySloIzy (.byte ptr8)) s

/-- SLO zp,X, opcode 0x17: R331, cycles of R146. -/
def entrySloZpx (f : Fetch) : Entry := rmwSeq (addrZpIndexed f .x) modifySlo

/-- The meaning of SLO zp,X (0x17). -/
def execSloZpx (zp8 : Byte) (s : State) : Answer := runInstr 0x17 (entrySloZpx (.byte zp8)) s

/-- SLO abs,Y, opcode 0x1B: R331, cycles of R150. -/
def entrySloAbsy (f : Fetch) : Entry := rmwSeq (addrAbsIndexed f .y) modifySlo

/-- The meaning of SLO abs,Y (0x1B). -/
def execSloAbsy (addr16 : Addr) (s : State) : Answer := runInstr 0x1B (entrySloAbsy (.word addr16)) s

/-- SLO abs,X, opcode 0x1F: R331, cycles of R150. -/
def entrySloAbsx (f : Fetch) : Entry := rmwSeq (addrAbsIndexed f .x) modifySlo

/-- The meaning of SLO abs,X (0x1F). -/
def execSloAbsx (addr16 : Addr) (s : State) : Answer := runInstr 0x1F (entrySloAbsx (.word addr16)) s

/-- RLA (zp,X), opcode 0x23: R332, cycles of R152. -/
def entryRlaIzx (f : Fetch) : Entry := rmwSeq (addrIzx f) modifyRla

/-- The meaning of RLA (zp,X) (0x23). -/
def execRlaIzx (ptr8 : Byte) (s : State) : Answer := runInstr 0x23 (entryRlaIzx (.byte ptr8)) s

/-- RLA zp, opcode 0x27: R332, cycles of R145. -/
def entryRlaZp (f : Fetch) : Entry := rmwSeq (addrZp f) modifyRla

/-- The meaning of RLA zp (0x27). -/
def execRlaZp (zp8 : Byte) (s : State) : Answer := runInstr 0x27 (entryRlaZp (.byte zp8)) s

/-- RLA abs, opcode 0x2F: R332, cycles of R147. -/
def entryRlaAbs (f : Fetch) : Entry := rmwSeq (addrAbs f) modifyRla

/-- The meaning of RLA abs (0x2F). -/
def execRlaAbs (addr16 : Addr) (s : State) : Answer := runInstr 0x2F (entryRlaAbs (.word addr16)) s

/-- RLA (zp),Y, opcode 0x33: R332, cycles of R155. -/
def entryRlaIzy (f : Fetch) : Entry := rmwSeq (addrIzy f) modifyRla

/-- The meaning of RLA (zp),Y (0x33). -/
def execRlaIzy (ptr8 : Byte) (s : State) : Answer := runInstr 0x33 (entryRlaIzy (.byte ptr8)) s

/-- RLA zp,X, opcode 0x37: R332, cycles of R146. -/
def entryRlaZpx (f : Fetch) : Entry := rmwSeq (addrZpIndexed f .x) modifyRla

/-- The meaning of RLA zp,X (0x37). -/
def execRlaZpx (zp8 : Byte) (s : State) : Answer := runInstr 0x37 (entryRlaZpx (.byte zp8)) s

/-- RLA abs,Y, opcode 0x3B: R332, cycles of R150. -/
def entryRlaAbsy (f : Fetch) : Entry := rmwSeq (addrAbsIndexed f .y) modifyRla

/-- The meaning of RLA abs,Y (0x3B). -/
def execRlaAbsy (addr16 : Addr) (s : State) : Answer := runInstr 0x3B (entryRlaAbsy (.word addr16)) s

/-- RLA abs,X, opcode 0x3F: R332, cycles of R150. -/
def entryRlaAbsx (f : Fetch) : Entry := rmwSeq (addrAbsIndexed f .x) modifyRla

/-- The meaning of RLA abs,X (0x3F). -/
def execRlaAbsx (addr16 : Addr) (s : State) : Answer := runInstr 0x3F (entryRlaAbsx (.word addr16)) s

/-- SRE (zp,X), opcode 0x43: R333, cycles of R152. -/
def entrySreIzx (f : Fetch) : Entry := rmwSeq (addrIzx f) modifySre

/-- The meaning of SRE (zp,X) (0x43). -/
def execSreIzx (ptr8 : Byte) (s : State) : Answer := runInstr 0x43 (entrySreIzx (.byte ptr8)) s

/-- SRE zp, opcode 0x47: R333, cycles of R145. -/
def entrySreZp (f : Fetch) : Entry := rmwSeq (addrZp f) modifySre

/-- The meaning of SRE zp (0x47). -/
def execSreZp (zp8 : Byte) (s : State) : Answer := runInstr 0x47 (entrySreZp (.byte zp8)) s

/-- SRE abs, opcode 0x4F: R333, cycles of R147. -/
def entrySreAbs (f : Fetch) : Entry := rmwSeq (addrAbs f) modifySre

/-- The meaning of SRE abs (0x4F). -/
def execSreAbs (addr16 : Addr) (s : State) : Answer := runInstr 0x4F (entrySreAbs (.word addr16)) s

/-- SRE (zp),Y, opcode 0x53: R333, cycles of R155. -/
def entrySreIzy (f : Fetch) : Entry := rmwSeq (addrIzy f) modifySre

/-- The meaning of SRE (zp),Y (0x53). -/
def execSreIzy (ptr8 : Byte) (s : State) : Answer := runInstr 0x53 (entrySreIzy (.byte ptr8)) s

/-- SRE zp,X, opcode 0x57: R333, cycles of R146. -/
def entrySreZpx (f : Fetch) : Entry := rmwSeq (addrZpIndexed f .x) modifySre

/-- The meaning of SRE zp,X (0x57). -/
def execSreZpx (zp8 : Byte) (s : State) : Answer := runInstr 0x57 (entrySreZpx (.byte zp8)) s

/-- SRE abs,Y, opcode 0x5B: R333, cycles of R150. -/
def entrySreAbsy (f : Fetch) : Entry := rmwSeq (addrAbsIndexed f .y) modifySre

/-- The meaning of SRE abs,Y (0x5B). -/
def execSreAbsy (addr16 : Addr) (s : State) : Answer := runInstr 0x5B (entrySreAbsy (.word addr16)) s

/-- SRE abs,X, opcode 0x5F: R333, cycles of R150. -/
def entrySreAbsx (f : Fetch) : Entry := rmwSeq (addrAbsIndexed f .x) modifySre

/-- The meaning of SRE abs,X (0x5F). -/
def execSreAbsx (addr16 : Addr) (s : State) : Answer := runInstr 0x5F (entrySreAbsx (.word addr16)) s

/-- RRA (zp,X), opcode 0x63: R334, cycles of R152. -/
def entryRraIzx (f : Fetch) : Entry := rmwSeq (addrIzx f) modifyRra

/-- The meaning of RRA (zp,X) (0x63). -/
def execRraIzx (ptr8 : Byte) (s : State) : Answer := runInstr 0x63 (entryRraIzx (.byte ptr8)) s

/-- RRA zp, opcode 0x67: R334, cycles of R145. -/
def entryRraZp (f : Fetch) : Entry := rmwSeq (addrZp f) modifyRra

/-- The meaning of RRA zp (0x67). -/
def execRraZp (zp8 : Byte) (s : State) : Answer := runInstr 0x67 (entryRraZp (.byte zp8)) s

/-- RRA abs, opcode 0x6F: R334, cycles of R147. -/
def entryRraAbs (f : Fetch) : Entry := rmwSeq (addrAbs f) modifyRra

/-- The meaning of RRA abs (0x6F). -/
def execRraAbs (addr16 : Addr) (s : State) : Answer := runInstr 0x6F (entryRraAbs (.word addr16)) s

/-- RRA (zp),Y, opcode 0x73: R334, cycles of R155. -/
def entryRraIzy (f : Fetch) : Entry := rmwSeq (addrIzy f) modifyRra

/-- The meaning of RRA (zp),Y (0x73). -/
def execRraIzy (ptr8 : Byte) (s : State) : Answer := runInstr 0x73 (entryRraIzy (.byte ptr8)) s

/-- RRA zp,X, opcode 0x77: R334, cycles of R146. -/
def entryRraZpx (f : Fetch) : Entry := rmwSeq (addrZpIndexed f .x) modifyRra

/-- The meaning of RRA zp,X (0x77). -/
def execRraZpx (zp8 : Byte) (s : State) : Answer := runInstr 0x77 (entryRraZpx (.byte zp8)) s

/-- RRA abs,Y, opcode 0x7B: R334, cycles of R150. -/
def entryRraAbsy (f : Fetch) : Entry := rmwSeq (addrAbsIndexed f .y) modifyRra

/-- The meaning of RRA abs,Y (0x7B). -/
def execRraAbsy (addr16 : Addr) (s : State) : Answer := runInstr 0x7B (entryRraAbsy (.word addr16)) s

/-- RRA abs,X, opcode 0x7F: R334, cycles of R150. -/
def entryRraAbsx (f : Fetch) : Entry := rmwSeq (addrAbsIndexed f .x) modifyRra

/-- The meaning of RRA abs,X (0x7F). -/
def execRraAbsx (addr16 : Addr) (s : State) : Answer := runInstr 0x7F (entryRraAbsx (.word addr16)) s

/-- DCP (zp,X), opcode 0xC3: R337, cycles of R152. -/
def entryDcpIzx (f : Fetch) : Entry := rmwSeq (addrIzx f) modifyDcp

/-- The meaning of DCP (zp,X) (0xC3). -/
def execDcpIzx (ptr8 : Byte) (s : State) : Answer := runInstr 0xC3 (entryDcpIzx (.byte ptr8)) s

/-- DCP zp, opcode 0xC7: R337, cycles of R145. -/
def entryDcpZp (f : Fetch) : Entry := rmwSeq (addrZp f) modifyDcp

/-- The meaning of DCP zp (0xC7). -/
def execDcpZp (zp8 : Byte) (s : State) : Answer := runInstr 0xC7 (entryDcpZp (.byte zp8)) s

/-- DCP abs, opcode 0xCF: R337, cycles of R147. -/
def entryDcpAbs (f : Fetch) : Entry := rmwSeq (addrAbs f) modifyDcp

/-- The meaning of DCP abs (0xCF). -/
def execDcpAbs (addr16 : Addr) (s : State) : Answer := runInstr 0xCF (entryDcpAbs (.word addr16)) s

/-- DCP (zp),Y, opcode 0xD3: R337, cycles of R155. -/
def entryDcpIzy (f : Fetch) : Entry := rmwSeq (addrIzy f) modifyDcp

/-- The meaning of DCP (zp),Y (0xD3). -/
def execDcpIzy (ptr8 : Byte) (s : State) : Answer := runInstr 0xD3 (entryDcpIzy (.byte ptr8)) s

/-- DCP zp,X, opcode 0xD7: R337, cycles of R146. -/
def entryDcpZpx (f : Fetch) : Entry := rmwSeq (addrZpIndexed f .x) modifyDcp

/-- The meaning of DCP zp,X (0xD7). -/
def execDcpZpx (zp8 : Byte) (s : State) : Answer := runInstr 0xD7 (entryDcpZpx (.byte zp8)) s

/-- DCP abs,Y, opcode 0xDB: R337, cycles of R150. -/
def entryDcpAbsy (f : Fetch) : Entry := rmwSeq (addrAbsIndexed f .y) modifyDcp

/-- The meaning of DCP abs,Y (0xDB). -/
def execDcpAbsy (addr16 : Addr) (s : State) : Answer := runInstr 0xDB (entryDcpAbsy (.word addr16)) s

/-- DCP abs,X, opcode 0xDF: R337, cycles of R150. -/
def entryDcpAbsx (f : Fetch) : Entry := rmwSeq (addrAbsIndexed f .x) modifyDcp

/-- The meaning of DCP abs,X (0xDF). -/
def execDcpAbsx (addr16 : Addr) (s : State) : Answer := runInstr 0xDF (entryDcpAbsx (.word addr16)) s

/-- ISC (zp,X), opcode 0xE3: R338, cycles of R152. -/
def entryIscIzx (f : Fetch) : Entry := rmwSeq (addrIzx f) modifyIsc

/-- The meaning of ISC (zp,X) (0xE3). -/
def execIscIzx (ptr8 : Byte) (s : State) : Answer := runInstr 0xE3 (entryIscIzx (.byte ptr8)) s

/-- ISC zp, opcode 0xE7: R338, cycles of R145. -/
def entryIscZp (f : Fetch) : Entry := rmwSeq (addrZp f) modifyIsc

/-- The meaning of ISC zp (0xE7). -/
def execIscZp (zp8 : Byte) (s : State) : Answer := runInstr 0xE7 (entryIscZp (.byte zp8)) s

/-- ISC abs, opcode 0xEF: R338, cycles of R147. -/
def entryIscAbs (f : Fetch) : Entry := rmwSeq (addrAbs f) modifyIsc

/-- The meaning of ISC abs (0xEF). -/
def execIscAbs (addr16 : Addr) (s : State) : Answer := runInstr 0xEF (entryIscAbs (.word addr16)) s

/-- ISC (zp),Y, opcode 0xF3: R338, cycles of R155. -/
def entryIscIzy (f : Fetch) : Entry := rmwSeq (addrIzy f) modifyIsc

/-- The meaning of ISC (zp),Y (0xF3). -/
def execIscIzy (ptr8 : Byte) (s : State) : Answer := runInstr 0xF3 (entryIscIzy (.byte ptr8)) s

/-- ISC zp,X, opcode 0xF7: R338, cycles of R146. -/
def entryIscZpx (f : Fetch) : Entry := rmwSeq (addrZpIndexed f .x) modifyIsc

/-- The meaning of ISC zp,X (0xF7). -/
def execIscZpx (zp8 : Byte) (s : State) : Answer := runInstr 0xF7 (entryIscZpx (.byte zp8)) s

/-- ISC abs,Y, opcode 0xFB: R338, cycles of R150. -/
def entryIscAbsy (f : Fetch) : Entry := rmwSeq (addrAbsIndexed f .y) modifyIsc

/-- The meaning of ISC abs,Y (0xFB). -/
def execIscAbsy (addr16 : Addr) (s : State) : Answer := runInstr 0xFB (entryIscAbsy (.word addr16)) s

/-- ISC abs,X, opcode 0xFF: R338, cycles of R150. -/
def entryIscAbsx (f : Fetch) : Entry := rmwSeq (addrAbsIndexed f .x) modifyIsc

/-- The meaning of ISC abs,X (0xFF). -/
def execIscAbsx (addr16 : Addr) (s : State) : Answer := runInstr 0xFF (entryIscAbsx (.word addr16)) s

/-- SAX (zp,X), opcode 0x83: R335, cycles of R152. -/
def entrySaxIzx (f : Fetch) : Entry := writeSeq (addrIzx f) valueSax

/-- The meaning of SAX (zp,X) (0x83). -/
def execSaxIzx (ptr8 : Byte) (s : State) : Answer := runInstr 0x83 (entrySaxIzx (.byte ptr8)) s

/-- SAX zp, opcode 0x87: R335, cycles of R145. -/
def entrySaxZp (f : Fetch) : Entry := writeSeq (addrZp f) valueSax

/-- The meaning of SAX zp (0x87). -/
def execSaxZp (zp8 : Byte) (s : State) : Answer := runInstr 0x87 (entrySaxZp (.byte zp8)) s

/-- SAX abs, opcode 0x8F: R335, cycles of R147. -/
def entrySaxAbs (f : Fetch) : Entry := writeSeq (addrAbs f) valueSax

/-- The meaning of SAX abs (0x8F). -/
def execSaxAbs (addr16 : Addr) (s : State) : Answer := runInstr 0x8F (entrySaxAbs (.word addr16)) s

/-- SAX zp,Y, opcode 0x97: R335, cycles of R146. -/
def entrySaxZpy (f : Fetch) : Entry := writeSeq (addrZpIndexed f .y) valueSax

/-- The meaning of SAX zp,Y (0x97). -/
def execSaxZpy (zp8 : Byte) (s : State) : Answer := runInstr 0x97 (entrySaxZpy (.byte zp8)) s

/-- LAX (zp,X), opcode 0xA3: R336, cycles of R152. -/
def entryLaxIzx (f : Fetch) : Entry := readSeq (addrIzx f) opLax

/-- The meaning of LAX (zp,X) (0xA3). -/
def execLaxIzx (ptr8 : Byte) (s : State) : Answer := runInstr 0xA3 (entryLaxIzx (.byte ptr8)) s

/-- LAX zp, opcode 0xA7: R336, cycles of R145. -/
def entryLaxZp (f : Fetch) : Entry := readSeq (addrZp f) opLax

/-- The meaning of LAX zp (0xA7). -/
def execLaxZp (zp8 : Byte) (s : State) : Answer := runInstr 0xA7 (entryLaxZp (.byte zp8)) s

/-- LAX abs, opcode 0xAF: R336, cycles of R147. -/
def entryLaxAbs (f : Fetch) : Entry := readSeq (addrAbs f) opLax

/-- The meaning of LAX abs (0xAF). -/
def execLaxAbs (addr16 : Addr) (s : State) : Answer := runInstr 0xAF (entryLaxAbs (.word addr16)) s

/-- LAX (zp),Y, opcode 0xB3: R336, cycles of R153. -/
def entryLaxIzy (f : Fetch) : Entry := readIzySeq f opLax

/-- The meaning of LAX (zp),Y (0xB3). -/
def execLaxIzy (ptr8 : Byte) (s : State) : Answer := runInstr 0xB3 (entryLaxIzy (.byte ptr8)) s

/-- LAX zp,Y, opcode 0xB7: R336, cycles of R146. -/
def entryLaxZpy (f : Fetch) : Entry := readSeq (addrZpIndexed f .y) opLax

/-- The meaning of LAX zp,Y (0xB7). -/
def execLaxZpy (zp8 : Byte) (s : State) : Answer := runInstr 0xB7 (entryLaxZpy (.byte zp8)) s

/-- LAX abs,Y, opcode 0xBF: R336, cycles of R148. -/
def entryLaxAbsy (f : Fetch) : Entry := readAbsIndexedSeq f .y opLax

/-- The meaning of LAX abs,Y (0xBF). -/
def execLaxAbsy (addr16 : Addr) (s : State) : Answer := runInstr 0xBF (entryLaxAbsy (.word addr16)) s

/-- ANC #, opcode 0x0B: R339, cycles of R144. -/
def entryAncImm0B (f : Fetch) : Entry := immediateSeq f opAnc

/-- The meaning of ANC # (0x0B). -/
def execAncImm0B (imm8 : Byte) (s : State) : Answer := runInstr 0x0B (entryAncImm0B (.byte imm8)) s

/-- ANC #, opcode 0x2B: R339, cycles of R144. -/
def entryAncImm2B (f : Fetch) : Entry := immediateSeq f opAnc

/-- The meaning of ANC # (0x2B). -/
def execAncImm2B (imm8 : Byte) (s : State) : Answer := runInstr 0x2B (entryAncImm2B (.byte imm8)) s

/-- ALR #, opcode 0x4B: R340, cycles of R144. -/
def entryAlrImm (f : Fetch) : Entry := immediateSeq f opAlr

/-- The meaning of ALR # (0x4B). -/
def execAlrImm (imm8 : Byte) (s : State) : Answer := runInstr 0x4B (entryAlrImm (.byte imm8)) s

/-- ARR #, opcode 0x6B: R341, cycles of R144. -/
def entryArrImm (f : Fetch) : Entry := immediateSeq f opArr

/-- The meaning of ARR # (0x6B). -/
def execArrImm (imm8 : Byte) (s : State) : Answer := runInstr 0x6B (entryArrImm (.byte imm8)) s

/-- ANE #, opcode 0x8B: R342, cycles of R144. -/
def entryAneImm (f : Fetch) : Entry := immediateSeq f opAne

/-- The meaning of ANE # (0x8B). -/
def execAneImm (imm8 : Byte) (s : State) : Answer := runInstr 0x8B (entryAneImm (.byte imm8)) s

/-- LXA #, opcode 0xAB: R343, cycles of R144. -/
def entryLxaImm (f : Fetch) : Entry := immediateSeq f opLxa

/-- The meaning of LXA # (0xAB). -/
def execLxaImm (imm8 : Byte) (s : State) : Answer := runInstr 0xAB (entryLxaImm (.byte imm8)) s

/-- SBX #, opcode 0xCB: R344, cycles of R144. -/
def entrySbxImm (f : Fetch) : Entry := immediateSeq f opSbx

/-- The meaning of SBX # (0xCB). -/
def execSbxImm (imm8 : Byte) (s : State) : Answer := runInstr 0xCB (entrySbxImm (.byte imm8)) s

/-- USBC #, opcode 0xEB: R345, cycles of R144. -/
def entryUsbcImm (f : Fetch) : Entry := immediateSeq f opSbc

/-- The meaning of USBC # (0xEB). -/
def execUsbcImm (imm8 : Byte) (s : State) : Answer := runInstr 0xEB (entryUsbcImm (.byte imm8)) s

/-- SHA (zp),Y, opcode 0x93: R346, cycles of R154. -/
def entryShaIzy (f : Fetch) : Entry := shSeq (addrIzy f) .y sourceSha

/-- The meaning of SHA (zp),Y (0x93). -/
def execShaIzy (ptr8 : Byte) (s : State) : Answer := runInstr 0x93 (entryShaIzy (.byte ptr8)) s

/-- SHA abs,Y, opcode 0x9F: R346, cycles of R149. -/
def entryShaAbsy (f : Fetch) : Entry := shSeq (addrAbsIndexed f .y) .y sourceSha

/-- The meaning of SHA abs,Y (0x9F). -/
def execShaAbsy (addr16 : Addr) (s : State) : Answer := runInstr 0x9F (entryShaAbsy (.word addr16)) s

/-- SHX abs,Y, opcode 0x9E: R347, cycles of R149. -/
def entryShxAbsy (f : Fetch) : Entry := shSeq (addrAbsIndexed f .y) .y sourceShx

/-- The meaning of SHX abs,Y (0x9E). -/
def execShxAbsy (addr16 : Addr) (s : State) : Answer := runInstr 0x9E (entryShxAbsy (.word addr16)) s

/-- SHY abs,X, opcode 0x9C: R348, cycles of R149. -/
def entryShyAbsx (f : Fetch) : Entry := shSeq (addrAbsIndexed f .x) .x sourceShy

/-- The meaning of SHY abs,X (0x9C). -/
def execShyAbsx (addr16 : Addr) (s : State) : Answer := runInstr 0x9C (entryShyAbsx (.word addr16)) s

/-- TAS abs,Y, opcode 0x9B: R349, cycles of R149. -/
def entryTasAbsy (f : Fetch) : Entry := tasSeq (addrAbsIndexed f .y)

/-- The meaning of TAS abs,Y (0x9B). -/
def execTasAbsy (addr16 : Addr) (s : State) : Answer := runInstr 0x9B (entryTasAbsy (.word addr16)) s

/-- LAS abs,Y, opcode 0xBB: R350, cycles of R148. -/
def entryLasAbsy (f : Fetch) : Entry := readAbsIndexedSeq f .y opLas

/-- The meaning of LAS abs,Y (0xBB). -/
def execLasAbsy (addr16 : Addr) (s : State) : Answer := runInstr 0xBB (entryLasAbsy (.word addr16)) s

/-- NOP zp, opcode 0x04: R353, cycles of R145. -/
def entryNopZp04 (f : Fetch) : Entry := readSeq (addrZp f) opNop

/-- The meaning of NOP zp (0x04). -/
def execNopZp04 (zp8 : Byte) (s : State) : Answer := runInstr 0x04 (entryNopZp04 (.byte zp8)) s

/-- NOP abs, opcode 0x0C: R353, cycles of R147. -/
def entryNopAbs0C (f : Fetch) : Entry := readSeq (addrAbs f) opNop

/-- The meaning of NOP abs (0x0C). -/
def execNopAbs0C (addr16 : Addr) (s : State) : Answer := runInstr 0x0C (entryNopAbs0C (.word addr16)) s

/-- NOP zp,X, opcode 0x14: R353, cycles of R146. -/
def entryNopZpx14 (f : Fetch) : Entry := readSeq (addrZpIndexed f .x) opNop

/-- The meaning of NOP zp,X (0x14). -/
def execNopZpx14 (zp8 : Byte) (s : State) : Answer := runInstr 0x14 (entryNopZpx14 (.byte zp8)) s

/-- NOP, opcode 0x1A: R351, cycles of R142. -/
def entryNopImp1A : Entry := impliedSeq id

/-- The meaning of NOP (0x1A). -/
def execNopImp1A (s : State) : Answer := runInstr 0x1A entryNopImp1A s

/-- NOP abs,X, opcode 0x1C: R353, cycles of R148. -/
def entryNopAbsx1C (f : Fetch) : Entry := readAbsIndexedSeq f .x opNop

/-- The meaning of NOP abs,X (0x1C). -/
def execNopAbsx1C (addr16 : Addr) (s : State) : Answer := runInstr 0x1C (entryNopAbsx1C (.word addr16)) s

/-- NOP zp,X, opcode 0x34: R353, cycles of R146. -/
def entryNopZpx34 (f : Fetch) : Entry := readSeq (addrZpIndexed f .x) opNop

/-- The meaning of NOP zp,X (0x34). -/
def execNopZpx34 (zp8 : Byte) (s : State) : Answer := runInstr 0x34 (entryNopZpx34 (.byte zp8)) s

/-- NOP, opcode 0x3A: R351, cycles of R142. -/
def entryNopImp3A : Entry := impliedSeq id

/-- The meaning of NOP (0x3A). -/
def execNopImp3A (s : State) : Answer := runInstr 0x3A entryNopImp3A s

/-- NOP abs,X, opcode 0x3C: R353, cycles of R148. -/
def entryNopAbsx3C (f : Fetch) : Entry := readAbsIndexedSeq f .x opNop

/-- The meaning of NOP abs,X (0x3C). -/
def execNopAbsx3C (addr16 : Addr) (s : State) : Answer := runInstr 0x3C (entryNopAbsx3C (.word addr16)) s

/-- NOP zp, opcode 0x44: R353, cycles of R145. -/
def entryNopZp44 (f : Fetch) : Entry := readSeq (addrZp f) opNop

/-- The meaning of NOP zp (0x44). -/
def execNopZp44 (zp8 : Byte) (s : State) : Answer := runInstr 0x44 (entryNopZp44 (.byte zp8)) s

/-- NOP zp,X, opcode 0x54: R353, cycles of R146. -/
def entryNopZpx54 (f : Fetch) : Entry := readSeq (addrZpIndexed f .x) opNop

/-- The meaning of NOP zp,X (0x54). -/
def execNopZpx54 (zp8 : Byte) (s : State) : Answer := runInstr 0x54 (entryNopZpx54 (.byte zp8)) s

/-- NOP, opcode 0x5A: R351, cycles of R142. -/
def entryNopImp5A : Entry := impliedSeq id

/-- The meaning of NOP (0x5A). -/
def execNopImp5A (s : State) : Answer := runInstr 0x5A entryNopImp5A s

/-- NOP abs,X, opcode 0x5C: R353, cycles of R148. -/
def entryNopAbsx5C (f : Fetch) : Entry := readAbsIndexedSeq f .x opNop

/-- The meaning of NOP abs,X (0x5C). -/
def execNopAbsx5C (addr16 : Addr) (s : State) : Answer := runInstr 0x5C (entryNopAbsx5C (.word addr16)) s

/-- NOP zp, opcode 0x64: R353, cycles of R145. -/
def entryNopZp64 (f : Fetch) : Entry := readSeq (addrZp f) opNop

/-- The meaning of NOP zp (0x64). -/
def execNopZp64 (zp8 : Byte) (s : State) : Answer := runInstr 0x64 (entryNopZp64 (.byte zp8)) s

/-- NOP zp,X, opcode 0x74: R353, cycles of R146. -/
def entryNopZpx74 (f : Fetch) : Entry := readSeq (addrZpIndexed f .x) opNop

/-- The meaning of NOP zp,X (0x74). -/
def execNopZpx74 (zp8 : Byte) (s : State) : Answer := runInstr 0x74 (entryNopZpx74 (.byte zp8)) s

/-- NOP, opcode 0x7A: R351, cycles of R142. -/
def entryNopImp7A : Entry := impliedSeq id

/-- The meaning of NOP (0x7A). -/
def execNopImp7A (s : State) : Answer := runInstr 0x7A entryNopImp7A s

/-- NOP abs,X, opcode 0x7C: R353, cycles of R148. -/
def entryNopAbsx7C (f : Fetch) : Entry := readAbsIndexedSeq f .x opNop

/-- The meaning of NOP abs,X (0x7C). -/
def execNopAbsx7C (addr16 : Addr) (s : State) : Answer := runInstr 0x7C (entryNopAbsx7C (.word addr16)) s

/-- NOP #, opcode 0x80: R352, cycles of R144. -/
def entryNopImm80 (f : Fetch) : Entry := immediateSeq f opNop

/-- The meaning of NOP # (0x80). -/
def execNopImm80 (imm8 : Byte) (s : State) : Answer := runInstr 0x80 (entryNopImm80 (.byte imm8)) s

/-- NOP #, opcode 0x82: R352, cycles of R144. -/
def entryNopImm82 (f : Fetch) : Entry := immediateSeq f opNop

/-- The meaning of NOP # (0x82). -/
def execNopImm82 (imm8 : Byte) (s : State) : Answer := runInstr 0x82 (entryNopImm82 (.byte imm8)) s

/-- NOP #, opcode 0x89: R352, cycles of R144. -/
def entryNopImm89 (f : Fetch) : Entry := immediateSeq f opNop

/-- The meaning of NOP # (0x89). -/
def execNopImm89 (imm8 : Byte) (s : State) : Answer := runInstr 0x89 (entryNopImm89 (.byte imm8)) s

/-- NOP #, opcode 0xC2: R352, cycles of R144. -/
def entryNopImmC2 (f : Fetch) : Entry := immediateSeq f opNop

/-- The meaning of NOP # (0xC2). -/
def execNopImmC2 (imm8 : Byte) (s : State) : Answer := runInstr 0xC2 (entryNopImmC2 (.byte imm8)) s

/-- NOP zp,X, opcode 0xD4: R353, cycles of R146. -/
def entryNopZpxD4 (f : Fetch) : Entry := readSeq (addrZpIndexed f .x) opNop

/-- The meaning of NOP zp,X (0xD4). -/
def execNopZpxD4 (zp8 : Byte) (s : State) : Answer := runInstr 0xD4 (entryNopZpxD4 (.byte zp8)) s

/-- NOP, opcode 0xDA: R351, cycles of R142. -/
def entryNopImpDA : Entry := impliedSeq id

/-- The meaning of NOP (0xDA). -/
def execNopImpDA (s : State) : Answer := runInstr 0xDA entryNopImpDA s

/-- NOP abs,X, opcode 0xDC: R353, cycles of R148. -/
def entryNopAbsxDC (f : Fetch) : Entry := readAbsIndexedSeq f .x opNop

/-- The meaning of NOP abs,X (0xDC). -/
def execNopAbsxDC (addr16 : Addr) (s : State) : Answer := runInstr 0xDC (entryNopAbsxDC (.word addr16)) s

/-- NOP #, opcode 0xE2: R352, cycles of R144. -/
def entryNopImmE2 (f : Fetch) : Entry := immediateSeq f opNop

/-- The meaning of NOP # (0xE2). -/
def execNopImmE2 (imm8 : Byte) (s : State) : Answer := runInstr 0xE2 (entryNopImmE2 (.byte imm8)) s

/-- NOP zp,X, opcode 0xF4: R353, cycles of R146. -/
def entryNopZpxF4 (f : Fetch) : Entry := readSeq (addrZpIndexed f .x) opNop

/-- The meaning of NOP zp,X (0xF4). -/
def execNopZpxF4 (zp8 : Byte) (s : State) : Answer := runInstr 0xF4 (entryNopZpxF4 (.byte zp8)) s

/-- NOP, opcode 0xFA: R351, cycles of R142. -/
def entryNopImpFA : Entry := impliedSeq id

/-- The meaning of NOP (0xFA). -/
def execNopImpFA (s : State) : Answer := runInstr 0xFA entryNopImpFA s

/-- NOP abs,X, opcode 0xFC: R353, cycles of R148. -/
def entryNopAbsxFC (f : Fetch) : Entry := readAbsIndexedSeq f .x opNop

/-- The meaning of NOP abs,X (0xFC). -/
def execNopAbsxFC (addr16 : Addr) (s : State) : Answer := runInstr 0xFC (entryNopAbsxFC (.word addr16)) s

/-- JAM, opcode 0x02: R354, cycles of R168. -/
def entryJam02 : Entry := jamSeq

/-- The meaning of JAM (0x02). -/
def execJam02 (s : State) : Answer := runInstr 0x02 entryJam02 s

/-- JAM, opcode 0x12: R354, cycles of R168. -/
def entryJam12 : Entry := jamSeq

/-- The meaning of JAM (0x12). -/
def execJam12 (s : State) : Answer := runInstr 0x12 entryJam12 s

/-- JAM, opcode 0x22: R354, cycles of R168. -/
def entryJam22 : Entry := jamSeq

/-- The meaning of JAM (0x22). -/
def execJam22 (s : State) : Answer := runInstr 0x22 entryJam22 s

/-- JAM, opcode 0x32: R354, cycles of R168. -/
def entryJam32 : Entry := jamSeq

/-- The meaning of JAM (0x32). -/
def execJam32 (s : State) : Answer := runInstr 0x32 entryJam32 s

/-- JAM, opcode 0x42: R354, cycles of R168. -/
def entryJam42 : Entry := jamSeq

/-- The meaning of JAM (0x42). -/
def execJam42 (s : State) : Answer := runInstr 0x42 entryJam42 s

/-- JAM, opcode 0x52: R354, cycles of R168. -/
def entryJam52 : Entry := jamSeq

/-- The meaning of JAM (0x52). -/
def execJam52 (s : State) : Answer := runInstr 0x52 entryJam52 s

/-- JAM, opcode 0x62: R354, cycles of R168. -/
def entryJam62 : Entry := jamSeq

/-- The meaning of JAM (0x62). -/
def execJam62 (s : State) : Answer := runInstr 0x62 entryJam62 s

/-- JAM, opcode 0x72: R354, cycles of R168. -/
def entryJam72 : Entry := jamSeq

/-- The meaning of JAM (0x72). -/
def execJam72 (s : State) : Answer := runInstr 0x72 entryJam72 s

/-- JAM, opcode 0x92: R354, cycles of R168. -/
def entryJam92 : Entry := jamSeq

/-- The meaning of JAM (0x92). -/
def execJam92 (s : State) : Answer := runInstr 0x92 entryJam92 s

/-- JAM, opcode 0xB2: R354, cycles of R168. -/
def entryJamB2 : Entry := jamSeq

/-- The meaning of JAM (0xB2). -/
def execJamB2 (s : State) : Answer := runInstr 0xB2 entryJamB2 s

/-- JAM, opcode 0xD2: R354, cycles of R168. -/
def entryJamD2 : Entry := jamSeq

/-- The meaning of JAM (0xD2). -/
def execJamD2 (s : State) : Answer := runInstr 0xD2 entryJamD2 s

/-- JAM, opcode 0xF2: R354, cycles of R168. -/
def entryJamF2 : Entry := jamSeq

/-- The meaning of JAM (0xF2). -/
def execJamF2 (s : State) : Answer := runInstr 0xF2 entryJamF2 s

end Sys2Proof.Machine
end

