-- ==== Sys2Proof/Machine/Dispatch.lean ====
section
/-! DEFINITION. The dispatch: one arm per instruction, each one call of its meaning. -/

namespace Sys2Proof.Machine

/-- What an instruction does from its c0 to its last cycle (R135). No arm refuses and no meaning stops (R380). -/
def exec (i : Instr) (s : State) : Host.Outcome State Fault Refusal :=
  match i with
  | .oraIzx ptr8 => Sys2Proof.Machine.execOraIzx ptr8 s
  | .sloIzx ptr8 => Sys2Proof.Machine.execSloIzx ptr8 s
  | .nopZp04 zp8 => Sys2Proof.Machine.execNopZp04 zp8 s
  | .oraZp zp8 => Sys2Proof.Machine.execOraZp zp8 s
  | .aslZp zp8 => Sys2Proof.Machine.execAslZp zp8 s
  | .sloZp zp8 => Sys2Proof.Machine.execSloZp zp8 s
  | .oraImm imm8 => Sys2Proof.Machine.execOraImm imm8 s
  | .ancImm0B imm8 => Sys2Proof.Machine.execAncImm0B imm8 s
  | .nopAbs0C addr16 => Sys2Proof.Machine.execNopAbs0C addr16 s
  | .oraAbs addr16 => Sys2Proof.Machine.execOraAbs addr16 s
  | .aslAbs addr16 => Sys2Proof.Machine.execAslAbs addr16 s
  | .sloAbs addr16 => Sys2Proof.Machine.execSloAbs addr16 s
  | .bpl off8 => Sys2Proof.Machine.execBpl off8 s
  | .oraIzy ptr8 => Sys2Proof.Machine.execOraIzy ptr8 s
  | .sloIzy ptr8 => Sys2Proof.Machine.execSloIzy ptr8 s
  | .nopZpx14 zp8 => Sys2Proof.Machine.execNopZpx14 zp8 s
  | .oraZpx zp8 => Sys2Proof.Machine.execOraZpx zp8 s
  | .aslZpx zp8 => Sys2Proof.Machine.execAslZpx zp8 s
  | .sloZpx zp8 => Sys2Proof.Machine.execSloZpx zp8 s
  | .oraAbsy addr16 => Sys2Proof.Machine.execOraAbsy addr16 s
  | .sloAbsy addr16 => Sys2Proof.Machine.execSloAbsy addr16 s
  | .nopAbsx1C addr16 => Sys2Proof.Machine.execNopAbsx1C addr16 s
  | .oraAbsx addr16 => Sys2Proof.Machine.execOraAbsx addr16 s
  | .aslAbsx addr16 => Sys2Proof.Machine.execAslAbsx addr16 s
  | .sloAbsx addr16 => Sys2Proof.Machine.execSloAbsx addr16 s
  | .jsrAbs addr16 => Sys2Proof.Machine.execJsrAbs addr16 s
  | .andIzx ptr8 => Sys2Proof.Machine.execAndIzx ptr8 s
  | .rlaIzx ptr8 => Sys2Proof.Machine.execRlaIzx ptr8 s
  | .bitZp zp8 => Sys2Proof.Machine.execBitZp zp8 s
  | .andZp zp8 => Sys2Proof.Machine.execAndZp zp8 s
  | .rolZp zp8 => Sys2Proof.Machine.execRolZp zp8 s
  | .rlaZp zp8 => Sys2Proof.Machine.execRlaZp zp8 s
  | .andImm imm8 => Sys2Proof.Machine.execAndImm imm8 s
  | .ancImm2B imm8 => Sys2Proof.Machine.execAncImm2B imm8 s
  | .bitAbs addr16 => Sys2Proof.Machine.execBitAbs addr16 s
  | .andAbs addr16 => Sys2Proof.Machine.execAndAbs addr16 s
  | .rolAbs addr16 => Sys2Proof.Machine.execRolAbs addr16 s
  | .rlaAbs addr16 => Sys2Proof.Machine.execRlaAbs addr16 s
  | .bmi off8 => Sys2Proof.Machine.execBmi off8 s
  | .andIzy ptr8 => Sys2Proof.Machine.execAndIzy ptr8 s
  | .rlaIzy ptr8 => Sys2Proof.Machine.execRlaIzy ptr8 s
  | .nopZpx34 zp8 => Sys2Proof.Machine.execNopZpx34 zp8 s
  | .andZpx zp8 => Sys2Proof.Machine.execAndZpx zp8 s
  | .rolZpx zp8 => Sys2Proof.Machine.execRolZpx zp8 s
  | .rlaZpx zp8 => Sys2Proof.Machine.execRlaZpx zp8 s
  | .andAbsy addr16 => Sys2Proof.Machine.execAndAbsy addr16 s
  | .rlaAbsy addr16 => Sys2Proof.Machine.execRlaAbsy addr16 s
  | .nopAbsx3C addr16 => Sys2Proof.Machine.execNopAbsx3C addr16 s
  | .andAbsx addr16 => Sys2Proof.Machine.execAndAbsx addr16 s
  | .rolAbsx addr16 => Sys2Proof.Machine.execRolAbsx addr16 s
  | .rlaAbsx addr16 => Sys2Proof.Machine.execRlaAbsx addr16 s
  | .eorIzx ptr8 => Sys2Proof.Machine.execEorIzx ptr8 s
  | .sreIzx ptr8 => Sys2Proof.Machine.execSreIzx ptr8 s
  | .nopZp44 zp8 => Sys2Proof.Machine.execNopZp44 zp8 s
  | .eorZp zp8 => Sys2Proof.Machine.execEorZp zp8 s
  | .lsrZp zp8 => Sys2Proof.Machine.execLsrZp zp8 s
  | .sreZp zp8 => Sys2Proof.Machine.execSreZp zp8 s
  | .eorImm imm8 => Sys2Proof.Machine.execEorImm imm8 s
  | .alrImm imm8 => Sys2Proof.Machine.execAlrImm imm8 s
  | .jmpAbs addr16 => Sys2Proof.Machine.execJmpAbs addr16 s
  | .eorAbs addr16 => Sys2Proof.Machine.execEorAbs addr16 s
  | .lsrAbs addr16 => Sys2Proof.Machine.execLsrAbs addr16 s
  | .sreAbs addr16 => Sys2Proof.Machine.execSreAbs addr16 s
  | .bvc off8 => Sys2Proof.Machine.execBvc off8 s
  | .eorIzy ptr8 => Sys2Proof.Machine.execEorIzy ptr8 s
  | .sreIzy ptr8 => Sys2Proof.Machine.execSreIzy ptr8 s
  | .nopZpx54 zp8 => Sys2Proof.Machine.execNopZpx54 zp8 s
  | .eorZpx zp8 => Sys2Proof.Machine.execEorZpx zp8 s
  | .lsrZpx zp8 => Sys2Proof.Machine.execLsrZpx zp8 s
  | .sreZpx zp8 => Sys2Proof.Machine.execSreZpx zp8 s
  | .eorAbsy addr16 => Sys2Proof.Machine.execEorAbsy addr16 s
  | .sreAbsy addr16 => Sys2Proof.Machine.execSreAbsy addr16 s
  | .nopAbsx5C addr16 => Sys2Proof.Machine.execNopAbsx5C addr16 s
  | .eorAbsx addr16 => Sys2Proof.Machine.execEorAbsx addr16 s
  | .lsrAbsx addr16 => Sys2Proof.Machine.execLsrAbsx addr16 s
  | .sreAbsx addr16 => Sys2Proof.Machine.execSreAbsx addr16 s
  | .adcIzx ptr8 => Sys2Proof.Machine.execAdcIzx ptr8 s
  | .rraIzx ptr8 => Sys2Proof.Machine.execRraIzx ptr8 s
  | .nopZp64 zp8 => Sys2Proof.Machine.execNopZp64 zp8 s
  | .adcZp zp8 => Sys2Proof.Machine.execAdcZp zp8 s
  | .rorZp zp8 => Sys2Proof.Machine.execRorZp zp8 s
  | .rraZp zp8 => Sys2Proof.Machine.execRraZp zp8 s
  | .adcImm imm8 => Sys2Proof.Machine.execAdcImm imm8 s
  | .arrImm imm8 => Sys2Proof.Machine.execArrImm imm8 s
  | .jmpInd ptr16 => Sys2Proof.Machine.execJmpInd ptr16 s
  | .adcAbs addr16 => Sys2Proof.Machine.execAdcAbs addr16 s
  | .rorAbs addr16 => Sys2Proof.Machine.execRorAbs addr16 s
  | .rraAbs addr16 => Sys2Proof.Machine.execRraAbs addr16 s
  | .bvs off8 => Sys2Proof.Machine.execBvs off8 s
  | .adcIzy ptr8 => Sys2Proof.Machine.execAdcIzy ptr8 s
  | .rraIzy ptr8 => Sys2Proof.Machine.execRraIzy ptr8 s
  | .nopZpx74 zp8 => Sys2Proof.Machine.execNopZpx74 zp8 s
  | .adcZpx zp8 => Sys2Proof.Machine.execAdcZpx zp8 s
  | .rorZpx zp8 => Sys2Proof.Machine.execRorZpx zp8 s
  | .rraZpx zp8 => Sys2Proof.Machine.execRraZpx zp8 s
  | .adcAbsy addr16 => Sys2Proof.Machine.execAdcAbsy addr16 s
  | .rraAbsy addr16 => Sys2Proof.Machine.execRraAbsy addr16 s
  | .nopAbsx7C addr16 => Sys2Proof.Machine.execNopAbsx7C addr16 s
  | .adcAbsx addr16 => Sys2Proof.Machine.execAdcAbsx addr16 s
  | .rorAbsx addr16 => Sys2Proof.Machine.execRorAbsx addr16 s
  | .rraAbsx addr16 => Sys2Proof.Machine.execRraAbsx addr16 s
  | .nopImm80 imm8 => Sys2Proof.Machine.execNopImm80 imm8 s
  | .staIzx ptr8 => Sys2Proof.Machine.execStaIzx ptr8 s
  | .nopImm82 imm8 => Sys2Proof.Machine.execNopImm82 imm8 s
  | .saxIzx ptr8 => Sys2Proof.Machine.execSaxIzx ptr8 s
  | .styZp zp8 => Sys2Proof.Machine.execStyZp zp8 s
  | .staZp zp8 => Sys2Proof.Machine.execStaZp zp8 s
  | .stxZp zp8 => Sys2Proof.Machine.execStxZp zp8 s
  | .saxZp zp8 => Sys2Proof.Machine.execSaxZp zp8 s
  | .nopImm89 imm8 => Sys2Proof.Machine.execNopImm89 imm8 s
  | .aneImm imm8 => Sys2Proof.Machine.execAneImm imm8 s
  | .styAbs addr16 => Sys2Proof.Machine.execStyAbs addr16 s
  | .staAbs addr16 => Sys2Proof.Machine.execStaAbs addr16 s
  | .stxAbs addr16 => Sys2Proof.Machine.execStxAbs addr16 s
  | .saxAbs addr16 => Sys2Proof.Machine.execSaxAbs addr16 s
  | .bcc off8 => Sys2Proof.Machine.execBcc off8 s
  | .staIzy ptr8 => Sys2Proof.Machine.execStaIzy ptr8 s
  | .shaIzy ptr8 => Sys2Proof.Machine.execShaIzy ptr8 s
  | .styZpx zp8 => Sys2Proof.Machine.execStyZpx zp8 s
  | .staZpx zp8 => Sys2Proof.Machine.execStaZpx zp8 s
  | .stxZpy zp8 => Sys2Proof.Machine.execStxZpy zp8 s
  | .saxZpy zp8 => Sys2Proof.Machine.execSaxZpy zp8 s
  | .staAbsy addr16 => Sys2Proof.Machine.execStaAbsy addr16 s
  | .tasAbsy addr16 => Sys2Proof.Machine.execTasAbsy addr16 s
  | .shyAbsx addr16 => Sys2Proof.Machine.execShyAbsx addr16 s
  | .staAbsx addr16 => Sys2Proof.Machine.execStaAbsx addr16 s
  | .shxAbsy addr16 => Sys2Proof.Machine.execShxAbsy addr16 s
  | .shaAbsy addr16 => Sys2Proof.Machine.execShaAbsy addr16 s
  | .ldyImm imm8 => Sys2Proof.Machine.execLdyImm imm8 s
  | .ldaIzx ptr8 => Sys2Proof.Machine.execLdaIzx ptr8 s
  | .ldxImm imm8 => Sys2Proof.Machine.execLdxImm imm8 s
  | .laxIzx ptr8 => Sys2Proof.Machine.execLaxIzx ptr8 s
  | .ldyZp zp8 => Sys2Proof.Machine.execLdyZp zp8 s
  | .ldaZp zp8 => Sys2Proof.Machine.execLdaZp zp8 s
  | .ldxZp zp8 => Sys2Proof.Machine.execLdxZp zp8 s
  | .laxZp zp8 => Sys2Proof.Machine.execLaxZp zp8 s
  | .ldaImm imm8 => Sys2Proof.Machine.execLdaImm imm8 s
  | .lxaImm imm8 => Sys2Proof.Machine.execLxaImm imm8 s
  | .ldyAbs addr16 => Sys2Proof.Machine.execLdyAbs addr16 s
  | .ldaAbs addr16 => Sys2Proof.Machine.execLdaAbs addr16 s
  | .ldxAbs addr16 => Sys2Proof.Machine.execLdxAbs addr16 s
  | .laxAbs addr16 => Sys2Proof.Machine.execLaxAbs addr16 s
  | .bcs off8 => Sys2Proof.Machine.execBcs off8 s
  | .ldaIzy ptr8 => Sys2Proof.Machine.execLdaIzy ptr8 s
  | .laxIzy ptr8 => Sys2Proof.Machine.execLaxIzy ptr8 s
  | .ldyZpx zp8 => Sys2Proof.Machine.execLdyZpx zp8 s
  | .ldaZpx zp8 => Sys2Proof.Machine.execLdaZpx zp8 s
  | .ldxZpy zp8 => Sys2Proof.Machine.execLdxZpy zp8 s
  | .laxZpy zp8 => Sys2Proof.Machine.execLaxZpy zp8 s
  | .ldaAbsy addr16 => Sys2Proof.Machine.execLdaAbsy addr16 s
  | .lasAbsy addr16 => Sys2Proof.Machine.execLasAbsy addr16 s
  | .ldyAbsx addr16 => Sys2Proof.Machine.execLdyAbsx addr16 s
  | .ldaAbsx addr16 => Sys2Proof.Machine.execLdaAbsx addr16 s
  | .ldxAbsy addr16 => Sys2Proof.Machine.execLdxAbsy addr16 s
  | .laxAbsy addr16 => Sys2Proof.Machine.execLaxAbsy addr16 s
  | .cpyImm imm8 => Sys2Proof.Machine.execCpyImm imm8 s
  | .cmpIzx ptr8 => Sys2Proof.Machine.execCmpIzx ptr8 s
  | .nopImmC2 imm8 => Sys2Proof.Machine.execNopImmC2 imm8 s
  | .dcpIzx ptr8 => Sys2Proof.Machine.execDcpIzx ptr8 s
  | .cpyZp zp8 => Sys2Proof.Machine.execCpyZp zp8 s
  | .cmpZp zp8 => Sys2Proof.Machine.execCmpZp zp8 s
  | .decZp zp8 => Sys2Proof.Machine.execDecZp zp8 s
  | .dcpZp zp8 => Sys2Proof.Machine.execDcpZp zp8 s
  | .cmpImm imm8 => Sys2Proof.Machine.execCmpImm imm8 s
  | .sbxImm imm8 => Sys2Proof.Machine.execSbxImm imm8 s
  | .cpyAbs addr16 => Sys2Proof.Machine.execCpyAbs addr16 s
  | .cmpAbs addr16 => Sys2Proof.Machine.execCmpAbs addr16 s
  | .decAbs addr16 => Sys2Proof.Machine.execDecAbs addr16 s
  | .dcpAbs addr16 => Sys2Proof.Machine.execDcpAbs addr16 s
  | .bne off8 => Sys2Proof.Machine.execBne off8 s
  | .cmpIzy ptr8 => Sys2Proof.Machine.execCmpIzy ptr8 s
  | .dcpIzy ptr8 => Sys2Proof.Machine.execDcpIzy ptr8 s
  | .nopZpxD4 zp8 => Sys2Proof.Machine.execNopZpxD4 zp8 s
  | .cmpZpx zp8 => Sys2Proof.Machine.execCmpZpx zp8 s
  | .decZpx zp8 => Sys2Proof.Machine.execDecZpx zp8 s
  | .dcpZpx zp8 => Sys2Proof.Machine.execDcpZpx zp8 s
  | .cmpAbsy addr16 => Sys2Proof.Machine.execCmpAbsy addr16 s
  | .dcpAbsy addr16 => Sys2Proof.Machine.execDcpAbsy addr16 s
  | .nopAbsxDC addr16 => Sys2Proof.Machine.execNopAbsxDC addr16 s
  | .cmpAbsx addr16 => Sys2Proof.Machine.execCmpAbsx addr16 s
  | .decAbsx addr16 => Sys2Proof.Machine.execDecAbsx addr16 s
  | .dcpAbsx addr16 => Sys2Proof.Machine.execDcpAbsx addr16 s
  | .cpxImm imm8 => Sys2Proof.Machine.execCpxImm imm8 s
  | .sbcIzx ptr8 => Sys2Proof.Machine.execSbcIzx ptr8 s
  | .nopImmE2 imm8 => Sys2Proof.Machine.execNopImmE2 imm8 s
  | .iscIzx ptr8 => Sys2Proof.Machine.execIscIzx ptr8 s
  | .cpxZp zp8 => Sys2Proof.Machine.execCpxZp zp8 s
  | .sbcZp zp8 => Sys2Proof.Machine.execSbcZp zp8 s
  | .incZp zp8 => Sys2Proof.Machine.execIncZp zp8 s
  | .iscZp zp8 => Sys2Proof.Machine.execIscZp zp8 s
  | .sbcImm imm8 => Sys2Proof.Machine.execSbcImm imm8 s
  | .usbcImm imm8 => Sys2Proof.Machine.execUsbcImm imm8 s
  | .cpxAbs addr16 => Sys2Proof.Machine.execCpxAbs addr16 s
  | .sbcAbs addr16 => Sys2Proof.Machine.execSbcAbs addr16 s
  | .incAbs addr16 => Sys2Proof.Machine.execIncAbs addr16 s
  | .iscAbs addr16 => Sys2Proof.Machine.execIscAbs addr16 s
  | .beq off8 => Sys2Proof.Machine.execBeq off8 s
  | .sbcIzy ptr8 => Sys2Proof.Machine.execSbcIzy ptr8 s
  | .iscIzy ptr8 => Sys2Proof.Machine.execIscIzy ptr8 s
  | .nopZpxF4 zp8 => Sys2Proof.Machine.execNopZpxF4 zp8 s
  | .sbcZpx zp8 => Sys2Proof.Machine.execSbcZpx zp8 s
  | .incZpx zp8 => Sys2Proof.Machine.execIncZpx zp8 s
  | .iscZpx zp8 => Sys2Proof.Machine.execIscZpx zp8 s
  | .sbcAbsy addr16 => Sys2Proof.Machine.execSbcAbsy addr16 s
  | .iscAbsy addr16 => Sys2Proof.Machine.execIscAbsy addr16 s
  | .nopAbsxFC addr16 => Sys2Proof.Machine.execNopAbsxFC addr16 s
  | .sbcAbsx addr16 => Sys2Proof.Machine.execSbcAbsx addr16 s
  | .incAbsx addr16 => Sys2Proof.Machine.execIncAbsx addr16 s
  | .iscAbsx addr16 => Sys2Proof.Machine.execIscAbsx addr16 s
  | .brk => Sys2Proof.Machine.execBrk s
  | .jam02 => Sys2Proof.Machine.execJam02 s
  | .php => Sys2Proof.Machine.execPhp s
  | .aslAcc => Sys2Proof.Machine.execAslAcc s
  | .jam12 => Sys2Proof.Machine.execJam12 s
  | .clc => Sys2Proof.Machine.execClc s
  | .nopImp1A => Sys2Proof.Machine.execNopImp1A s
  | .jam22 => Sys2Proof.Machine.execJam22 s
  | .plp => Sys2Proof.Machine.execPlp s
  | .rolAcc => Sys2Proof.Machine.execRolAcc s
  | .jam32 => Sys2Proof.Machine.execJam32 s
  | .sec => Sys2Proof.Machine.execSec s
  | .nopImp3A => Sys2Proof.Machine.execNopImp3A s
  | .rti => Sys2Proof.Machine.execRti s
  | .jam42 => Sys2Proof.Machine.execJam42 s
  | .pha => Sys2Proof.Machine.execPha s
  | .lsrAcc => Sys2Proof.Machine.execLsrAcc s
  | .jam52 => Sys2Proof.Machine.execJam52 s
  | .cli => Sys2Proof.Machine.execCli s
  | .nopImp5A => Sys2Proof.Machine.execNopImp5A s
  | .rts => Sys2Proof.Machine.execRts s
  | .jam62 => Sys2Proof.Machine.execJam62 s
  | .pla => Sys2Proof.Machine.execPla s
  | .rorAcc => Sys2Proof.Machine.execRorAcc s
  | .jam72 => Sys2Proof.Machine.execJam72 s
  | .sei => Sys2Proof.Machine.execSei s
  | .nopImp7A => Sys2Proof.Machine.execNopImp7A s
  | .dey => Sys2Proof.Machine.execDey s
  | .txa => Sys2Proof.Machine.execTxa s
  | .jam92 => Sys2Proof.Machine.execJam92 s
  | .tya => Sys2Proof.Machine.execTya s
  | .txs => Sys2Proof.Machine.execTxs s
  | .tay => Sys2Proof.Machine.execTay s
  | .tax => Sys2Proof.Machine.execTax s
  | .jamB2 => Sys2Proof.Machine.execJamB2 s
  | .clv => Sys2Proof.Machine.execClv s
  | .tsx => Sys2Proof.Machine.execTsx s
  | .iny => Sys2Proof.Machine.execIny s
  | .dex => Sys2Proof.Machine.execDex s
  | .jamD2 => Sys2Proof.Machine.execJamD2 s
  | .cld => Sys2Proof.Machine.execCld s
  | .nopImpDA => Sys2Proof.Machine.execNopImpDA s
  | .inx => Sys2Proof.Machine.execInx s
  | .nop => Sys2Proof.Machine.execNop s
  | .jamF2 => Sys2Proof.Machine.execJamF2 s
  | .sed => Sys2Proof.Machine.execSed s
  | .nopImpFA => Sys2Proof.Machine.execNopImpFA s

end Sys2Proof.Machine
end

