-- ==== Sys2Proof/Machine/Table.lean ====
section
/-! DEFINITION. The micro-operation table of 258 entries (R58, R132): the 256 opcodes in the rows of R106, the IRQ sequence and the NMI sequence. -/

namespace Sys2Proof.Machine

/-- The entries of opcodes 0x00 to 0x0F. -/
def tableRow0 : Vector (Fetch → Entry) 16 := #v[
  fun _ => entryBrk, entryOraIzx, fun _ => entryJam02, entrySloIzx,
  entryNopZp04, entryOraZp, entryAslZp, entrySloZp,
  fun _ => entryPhp, entryOraImm, fun _ => entryAslAcc, entryAncImm0B,
  entryNopAbs0C, entryOraAbs, entryAslAbs, entrySloAbs]

/-- The entries of opcodes 0x10 to 0x1F. -/
def tableRow1 : Vector (Fetch → Entry) 16 := #v[
  entryBpl, entryOraIzy, fun _ => entryJam12, entrySloIzy,
  entryNopZpx14, entryOraZpx, entryAslZpx, entrySloZpx,
  fun _ => entryClc, entryOraAbsy, fun _ => entryNopImp1A, entrySloAbsy,
  entryNopAbsx1C, entryOraAbsx, entryAslAbsx, entrySloAbsx]

/-- The entries of opcodes 0x20 to 0x2F. -/
def tableRow2 : Vector (Fetch → Entry) 16 := #v[
  entryJsrAbs, entryAndIzx, fun _ => entryJam22, entryRlaIzx,
  entryBitZp, entryAndZp, entryRolZp, entryRlaZp,
  fun _ => entryPlp, entryAndImm, fun _ => entryRolAcc, entryAncImm2B,
  entryBitAbs, entryAndAbs, entryRolAbs, entryRlaAbs]

/-- The entries of opcodes 0x30 to 0x3F. -/
def tableRow3 : Vector (Fetch → Entry) 16 := #v[
  entryBmi, entryAndIzy, fun _ => entryJam32, entryRlaIzy,
  entryNopZpx34, entryAndZpx, entryRolZpx, entryRlaZpx,
  fun _ => entrySec, entryAndAbsy, fun _ => entryNopImp3A, entryRlaAbsy,
  entryNopAbsx3C, entryAndAbsx, entryRolAbsx, entryRlaAbsx]

/-- The entries of opcodes 0x40 to 0x4F. -/
def tableRow4 : Vector (Fetch → Entry) 16 := #v[
  fun _ => entryRti, entryEorIzx, fun _ => entryJam42, entrySreIzx,
  entryNopZp44, entryEorZp, entryLsrZp, entrySreZp,
  fun _ => entryPha, entryEorImm, fun _ => entryLsrAcc, entryAlrImm,
  entryJmpAbs, entryEorAbs, entryLsrAbs, entrySreAbs]

/-- The entries of opcodes 0x50 to 0x5F. -/
def tableRow5 : Vector (Fetch → Entry) 16 := #v[
  entryBvc, entryEorIzy, fun _ => entryJam52, entrySreIzy,
  entryNopZpx54, entryEorZpx, entryLsrZpx, entrySreZpx,
  fun _ => entryCli, entryEorAbsy, fun _ => entryNopImp5A, entrySreAbsy,
  entryNopAbsx5C, entryEorAbsx, entryLsrAbsx, entrySreAbsx]

/-- The entries of opcodes 0x60 to 0x6F. -/
def tableRow6 : Vector (Fetch → Entry) 16 := #v[
  fun _ => entryRts, entryAdcIzx, fun _ => entryJam62, entryRraIzx,
  entryNopZp64, entryAdcZp, entryRorZp, entryRraZp,
  fun _ => entryPla, entryAdcImm, fun _ => entryRorAcc, entryArrImm,
  entryJmpInd, entryAdcAbs, entryRorAbs, entryRraAbs]

/-- The entries of opcodes 0x70 to 0x7F. -/
def tableRow7 : Vector (Fetch → Entry) 16 := #v[
  entryBvs, entryAdcIzy, fun _ => entryJam72, entryRraIzy,
  entryNopZpx74, entryAdcZpx, entryRorZpx, entryRraZpx,
  fun _ => entrySei, entryAdcAbsy, fun _ => entryNopImp7A, entryRraAbsy,
  entryNopAbsx7C, entryAdcAbsx, entryRorAbsx, entryRraAbsx]

/-- The entries of opcodes 0x80 to 0x8F. -/
def tableRow8 : Vector (Fetch → Entry) 16 := #v[
  entryNopImm80, entryStaIzx, entryNopImm82, entrySaxIzx,
  entryStyZp, entryStaZp, entryStxZp, entrySaxZp,
  fun _ => entryDey, entryNopImm89, fun _ => entryTxa, entryAneImm,
  entryStyAbs, entryStaAbs, entryStxAbs, entrySaxAbs]

/-- The entries of opcodes 0x90 to 0x9F. -/
def tableRow9 : Vector (Fetch → Entry) 16 := #v[
  entryBcc, entryStaIzy, fun _ => entryJam92, entryShaIzy,
  entryStyZpx, entryStaZpx, entryStxZpy, entrySaxZpy,
  fun _ => entryTya, entryStaAbsy, fun _ => entryTxs, entryTasAbsy,
  entryShyAbsx, entryStaAbsx, entryShxAbsy, entryShaAbsy]

/-- The entries of opcodes 0xA0 to 0xAF. -/
def tableRowA : Vector (Fetch → Entry) 16 := #v[
  entryLdyImm, entryLdaIzx, entryLdxImm, entryLaxIzx,
  entryLdyZp, entryLdaZp, entryLdxZp, entryLaxZp,
  fun _ => entryTay, entryLdaImm, fun _ => entryTax, entryLxaImm,
  entryLdyAbs, entryLdaAbs, entryLdxAbs, entryLaxAbs]

/-- The entries of opcodes 0xB0 to 0xBF. -/
def tableRowB : Vector (Fetch → Entry) 16 := #v[
  entryBcs, entryLdaIzy, fun _ => entryJamB2, entryLaxIzy,
  entryLdyZpx, entryLdaZpx, entryLdxZpy, entryLaxZpy,
  fun _ => entryClv, entryLdaAbsy, fun _ => entryTsx, entryLasAbsy,
  entryLdyAbsx, entryLdaAbsx, entryLdxAbsy, entryLaxAbsy]

/-- The entries of opcodes 0xC0 to 0xCF. -/
def tableRowC : Vector (Fetch → Entry) 16 := #v[
  entryCpyImm, entryCmpIzx, entryNopImmC2, entryDcpIzx,
  entryCpyZp, entryCmpZp, entryDecZp, entryDcpZp,
  fun _ => entryIny, entryCmpImm, fun _ => entryDex, entrySbxImm,
  entryCpyAbs, entryCmpAbs, entryDecAbs, entryDcpAbs]

/-- The entries of opcodes 0xD0 to 0xDF. -/
def tableRowD : Vector (Fetch → Entry) 16 := #v[
  entryBne, entryCmpIzy, fun _ => entryJamD2, entryDcpIzy,
  entryNopZpxD4, entryCmpZpx, entryDecZpx, entryDcpZpx,
  fun _ => entryCld, entryCmpAbsy, fun _ => entryNopImpDA, entryDcpAbsy,
  entryNopAbsxDC, entryCmpAbsx, entryDecAbsx, entryDcpAbsx]

/-- The entries of opcodes 0xE0 to 0xEF. -/
def tableRowE : Vector (Fetch → Entry) 16 := #v[
  entryCpxImm, entrySbcIzx, entryNopImmE2, entryIscIzx,
  entryCpxZp, entrySbcZp, entryIncZp, entryIscZp,
  fun _ => entryInx, entrySbcImm, fun _ => entryNop, entryUsbcImm,
  entryCpxAbs, entrySbcAbs, entryIncAbs, entryIscAbs]

/-- The entries of opcodes 0xF0 to 0xFF. -/
def tableRowF : Vector (Fetch → Entry) 16 := #v[
  entryBeq, entrySbcIzy, fun _ => entryJamF2, entryIscIzy,
  entryNopZpxF4, entrySbcZpx, entryIncZpx, entryIscZpx,
  fun _ => entrySed, entrySbcAbsy, fun _ => entryNopImpFA, entryIscAbsy,
  entryNopAbsxFC, entrySbcAbsx, entryIncAbsx, entryIscAbsx]

/-- The entries of the 256 opcodes, a row for each high nibble. -/
def tableRows : Vector (Vector (Fetch → Entry) 16) 16 :=
  #v[tableRow0, tableRow1, tableRow2, tableRow3, tableRow4, tableRow5, tableRow6, tableRow7,
     tableRow8, tableRow9, tableRowA, tableRowB, tableRowC, tableRowD, tableRowE, tableRowF]

/-- The entry of the opcode `op`, with its operand bytes fetched as `f` says. -/
def opcodeEntry (op : Byte) (f : Fetch) : Entry :=
  (tableRows[op.toNat / 16]'(by have := op.isLt; omega))[op.toNat % 16] f

/-- `table[OpCode]` (R130), its operand bytes read from the bus. -/
def microOps : OpCode → Entry
  | .op op => opcodeEntry op .live
  | .irqSequence => interruptEntry irqVector
  | .nmiSequence => interruptEntry nmiVector

end Sys2Proof.Machine
end

