-- ==== Sys2Proof/Machine/Sequencer.lean ====
section
/-! DEFINITION. `Tick`, one clock cycle of CORE (R131, R133), the fetch of an instruction's bytes, and finishing an instruction in progress. -/

namespace Sys2Proof.Machine

/-- c0, the same in every entry (R133): dispatch of a pending interrupt, or the fetch of the opcode at PC. -/
def State.firstCycle (s : State) : State :=
  if s.interruptPending then s.dispatchInterrupt else s.fetchOpcode (s.peek s.pc)

/-- One `Tick` (R131): the action of cycle OpCodeCycle, the poll where it is the poll point, the advance. A cycle outside
the entry of OpCode is the contract violation of R381. -/
def tick (s : State) : Answer :=
  if s.opCodeCycle = 0 then
    let s' := s.firstCycle
    .next ((microOps s'.opCode).advance 0 s' false)
  else
    let e := microOps s.opCode
    match e.cycles[s.opCodeCycle - 1]? with
    | none => .fault .cycleOutOfTable
    | some action =>
      let r := action s
      .next (e.advance s.opCodeCycle r.1 r.2)

/-- `n` Ticks, stopping at a fault. -/
def ticks : Nat → State → Answer
  | 0, s => .next s
  | n + 1, s =>
    match tick s with
    | .next s' => ticks n s'
    | .fault r => .fault r
    | .refused r => .refused r

/-- Ticks until the next instruction boundary, at most `n` of them (R135). -/
def finish : Nat → State → Answer
  | 0, s => .next s
  | n + 1, s =>
    match tick s with
    | .next s' => if s'.opCodeCycle = 0 then .next s' else finish n s'
    | .fault r => .fault r
    | .refused r => .refused r

/-- The most cycles that can remain of an entry once its c0 has run: the longest entries have 8 (R169). -/
def maxRemainingCycles : Nat := 7

/-- The instruction at PC, as its bytes are fetched one after the other (R86, R100, R105): the decoder takes as many of the
three as the opcode needs. -/
def State.fetchInstr (s : State) : Instr :=
  let s1 := s.fetchOpcode (s.peek s.pc)
  let s2 := s1.takeByte (s1.peek s1.pc)
  decodeBytes (s.peek s.pc) (s1.peek s1.pc) (s2.peek s2.pc)

/-- The state with three bytes loaded at PC and after it. -/
def State.placeAtPc (s : State) (b0 b1 b2 : Byte) : State :=
  { s with platform := ((s.platform.load s.pc b0).load (s.pc + 1) b1).load (s.pc + 2) b2 }

/-- The state at an instruction boundary whose next c0 fetches (R133): no signal is pending. -/
def State.readyToFetch (s : State) : State :=
  { s with opCodeCycle := 0, nmiSignal := false, irqSignal := false }

end Sys2Proof.Machine
end

