-- ==== Sys2Proof/Machine/HostInterface.lean ====
section
/-! DEFINITION. What may happen to a running CORE between Ticks (R394, R397, R85), and what a host reads of it (R61). -/

namespace Sys2Proof.Machine

/-- `SetIRQ()` (R394). -/
def State.setIrq (s : State) : State := { s with irqLevelDetector := true }

/-- `ClearIRQ()` (R394). -/
def State.clearIrq (s : State) : State := { s with irqLevelDetector := false }

/-- `SetNMI()` (R394). -/
def State.setNmi (s : State) : State := { s with nmiEdgeDetector := true }

/-- A call that changes CORE's interrupt state (R394). -/
inductive HostCall where
  | setIrq
  | clearIrq
  | setNmi
  deriving DecidableEq, Repr

/-- The effect of a host call; it takes no cycle (R394). -/
def State.call (s : State) : HostCall → State
  | .setIrq => s.setIrq
  | .clearIrq => s.clearIrq
  | .setNmi => s.setNmi

/-- What may happen between two Ticks: a call of the host (R394), or a device that shares a region storing into it (R85,
R397, R413). A device's own state needs no event: the oracle answers from the history, and so from the cycle. -/
inductive HostEvent where
  | call (c : HostCall)
  | deviceStore (a : Addr) (v : Byte)
  deriving DecidableEq, Repr

/-- The effect of an event; it takes no cycle, and a store by a device is no access of CORE's. -/
def State.event (s : State) : HostEvent → State
  | .call c => s.call c
  | .deviceStore a v => { s with platform := s.platform.write a v }

/-- A run of Ticks with the listed events before each (R140, R397). -/
def ticksWithEvents : List (List HostEvent) → State → Answer
  | [], s => .next s
  | events :: rest, s =>
    match tick (events.foldl State.event s) with
    | .next s' => ticksWithEvents rest s'
    | .fault r => .fault r
    | .refused r => .refused r

/-- OpCode as the integer 0 to 257 of R51. -/
def OpCode.number : OpCode → Nat
  | .op code => code.toNat
  | .irqSequence => 256
  | .nmiSequence => 257

/-- What the read-only accessors give a host between Ticks (R61). -/
structure Accessors where
  a : Byte
  x : Byte
  y : Byte
  p : Byte
  s : Byte
  pc : Addr
  opCode : Nat
  opCodeCycle : Nat
  deriving DecidableEq, Repr

/-- The accessors (R61). -/
def State.accessors (s : State) : Accessors where
  a := s.a
  x := s.x
  y := s.y
  p := s.p
  s := s.sp
  pc := s.pc
  opCode := s.opCode.number
  opCodeCycle := s.opCodeCycle

end Sys2Proof.Machine
end

