-- ==== Sys2Proof/Machine/Access.lean ====
section
/-! DEFINITION. Where an instruction finds its operand (R103, R104), and the bus accesses that lead there (R142 to R155), as the environment answers them one after the other (R70). -/

namespace Sys2Proof.Machine

/-- The byte that the environment answers at `a` after the accesses `l`. -/
def State.answer (s : State) (l : List BusAccess) (a : Addr) : Byte := (s.platform.after l).read (s.history ++ l) a

/-- The accesses `l` and then a read of `a`, with the environment's answer. -/
def State.thenRead (s : State) (l : List BusAccess) (a : Addr) : List BusAccess := l ++ [.read a (s.answer l a)]

/-- The accesses `l` and then a read of each address, the first one first. -/
def State.thenReads (s : State) (l : List BusAccess) (as : List Addr) : List BusAccess := as.foldl s.thenRead l

/-- The access that fetches a one-byte instruction's opcode (R133). -/
abbrev fetch1 (s : State) (i : Instr) : List BusAccess := [.read s.pc ((encode i).headD 0)]

/-- The fetch of an opcode and the operand byte `b` (R100). -/
abbrev fetch2 (s : State) (i : Instr) (b : Byte) : List BusAccess := fetch1 s i ++ [.read (s.pc + 1) b]

/-- The fetch of an opcode and the operand `w`, low byte first (R100, R73). -/
abbrev fetch3 (s : State) (i : Instr) (w : Addr) : List BusAccess :=
  fetch1 s i ++ [.read (s.pc + 1) (lo8 w), .read (s.pc + 2) (hi8 w)]

/-- The fetch of an opcode and the dummy read of the byte after it (R142). -/
abbrev fetchImplied (s : State) (i : Instr) : List BusAccess := s.thenRead (fetch1 s i) (s.pc + 1)

/-- The address of an indexed access before the page fix-up: the index is added to the low byte alone (R148, R153). -/
def unfixed (w : Addr) (i : Byte) : Addr := wordOf (hi8 w) (lo8 w + i)

/-- The addition of an index to the low byte carries into the high byte (R151). -/
abbrev carries (w : Addr) (i : Byte) : Prop := (lo8 w).toNat + i.toNat ≥ 256

/-- The accesses that read a pointer in page zero at `p`, its high byte at `(p + 1) mod 256` (R79), after `l`. -/
def State.readPointer (s : State) (l : List BusAccess) (p : Byte) : List BusAccess :=
  s.thenReads l [eaZp p, eaZp (p + 1)]

/-- That pointer. -/
def State.pointer (s : State) (l : List BusAccess) (p : Byte) : Addr :=
  wordOf (s.answer (s.thenRead l (eaZp p)) (eaZp (p + 1))) (s.answer l (eaZp p))

/-- The operand forms that name a byte of memory (R103, R104). -/
inductive Mode where
  | zp (b : Byte)
  | zpIndexed (j : Index) (b : Byte)
  | abs (w : Addr)
  | absIndexed (j : Index) (w : Addr)
  | izx (b : Byte)
  | izy (b : Byte)
  deriving DecidableEq, Repr

/-- The accesses of instruction `i` up to its address, before any dummy read at an unfixed address: the operand bytes,
the dummy read of an indexed zero page form (R146), the pointer's two reads, and before them the dummy read of `(zp,X)`
(R152). -/
def Mode.fetches (m : Mode) (s : State) (i : Instr) : List BusAccess :=
  match m with
  | .zp b => fetch2 s i b
  | .zpIndexed _ b => s.thenRead (fetch2 s i b) (eaZp b)
  | .abs w => fetch3 s i w
  | .absIndexed _ w => fetch3 s i w
  | .izx b => s.readPointer (s.thenRead (fetch2 s i b) (eaZp b)) (b + s.x)
  | .izy b => s.readPointer (fetch2 s i b) b

/-- The address that the index of a page-crossing form is added to, and the index. -/
def Mode.indexed (m : Mode) (s : State) (i : Instr) : Option (Addr × Byte) :=
  match m with
  | .absIndexed j w => some (w, j.value s)
  | .izy b => some (s.pointer (fetch2 s i b) b, s.y)
  | _ => none

/-- The effective address (R104). -/
def Mode.ea (m : Mode) (s : State) (i : Instr) : Addr :=
  match m with
  | .zp b => eaZp b
  | .zpIndexed j b => eaZpIndexed j b s
  | .abs w => w
  | .absIndexed j w => eaAbsIndexed j w s
  | .izx b => s.pointer (s.thenRead (fetch2 s i b) (eaZp b)) (b + s.x)
  | .izy b => s.pointer (fetch2 s i b) b + s.y.setWidth 16

/-- The accesses before a write or a read-modify-write reaches its operand: a page-crossing form always reads at the
unfixed address first (R149, R150, R154, R155). -/
def Mode.leads (m : Mode) (s : State) (i : Instr) : List BusAccess :=
  match m.indexed s i with
  | some (w, j) => s.thenRead (m.fetches s i) (unfixed w j)
  | none => m.fetches s i

/-- The accesses before a read instruction reads its operand: at the unfixed address first only on a crossing (R148,
R153). -/
def Mode.leadsToRead (m : Mode) (s : State) (i : Instr) : List BusAccess :=
  match m.indexed s i with
  | some (w, j) => if carries w j then s.thenRead (m.fetches s i) (unfixed w j) else m.fetches s i
  | none => m.fetches s i

/-- The byte that a read instruction operates on. -/
def Mode.fetched (m : Mode) (s : State) (i : Instr) : Byte := s.answer (m.leadsToRead s i) (m.ea s i)

/-- The byte that a read-modify-write instruction modifies. -/
def Mode.modified (m : Mode) (s : State) (i : Instr) : Byte := s.answer (m.leads s i) (m.ea s i)

/-- The extra cycle of a read on a page crossing (R170). -/
def Mode.extra (m : Mode) (s : State) (i : Instr) : Nat :=
  match m.indexed s i with
  | some (w, j) => if carries w j then 1 else 0
  | none => 0

/-- What a read instruction operates on: a byte of the instruction, or one of memory (R103). -/
inductive Source where
  | imm (b : Byte)
  | mem (m : Mode)
  deriving DecidableEq, Repr

/-- The byte operated on. -/
def Source.value (o : Source) (s : State) (i : Instr) : Byte :=
  match o with
  | .imm b => b
  | .mem m => m.fetched s i

/-- The accesses of a read instruction (R144 to R148, R152, R153). -/
def Source.trace (o : Source) (s : State) (i : Instr) : List BusAccess :=
  match o with
  | .imm b => fetch2 s i b
  | .mem m => s.thenRead (m.leadsToRead s i) (m.ea s i)

/-- The extra cycle of a read instruction (R170). -/
def Source.extra (o : Source) (s : State) (i : Instr) : Nat :=
  match o with
  | .imm _ => 0
  | .mem m => m.extra s i

end Sys2Proof.Machine
end

