-- ==== Sys2Proof/Machine/Timing.lean ====
section
/-! DEFINITION. Cycle counts (R169, R170): how many Ticks an instruction runs, from the listing of 30_encoding.md and the state at its c0. -/

namespace Sys2Proof.Machine

/-- The cycles of opcodes 0x00 to 0x0F with no page crossed and no branch taken. -/
def cyclesRow0 : List Nat := [7, 6, 1, 8, 3, 3, 5, 5, 3, 2, 2, 2, 4, 4, 6, 6]
/-- The cycles of opcodes 0x10 to 0x1F with no page crossed and no branch taken. -/
def cyclesRow1 : List Nat := [2, 5, 1, 8, 4, 4, 6, 6, 2, 4, 2, 7, 4, 4, 7, 7]
/-- The cycles of opcodes 0x20 to 0x2F with no page crossed and no branch taken. -/
def cyclesRow2 : List Nat := [6, 6, 1, 8, 3, 3, 5, 5, 4, 2, 2, 2, 4, 4, 6, 6]
/-- The cycles of opcodes 0x30 to 0x3F with no page crossed and no branch taken. -/
def cyclesRow3 : List Nat := [2, 5, 1, 8, 4, 4, 6, 6, 2, 4, 2, 7, 4, 4, 7, 7]
/-- The cycles of opcodes 0x40 to 0x4F with no page crossed and no branch taken. -/
def cyclesRow4 : List Nat := [6, 6, 1, 8, 3, 3, 5, 5, 3, 2, 2, 2, 3, 4, 6, 6]
/-- The cycles of opcodes 0x50 to 0x5F with no page crossed and no branch taken. -/
def cyclesRow5 : List Nat := [2, 5, 1, 8, 4, 4, 6, 6, 2, 4, 2, 7, 4, 4, 7, 7]
/-- The cycles of opcodes 0x60 to 0x6F with no page crossed and no branch taken. -/
def cyclesRow6 : List Nat := [6, 6, 1, 8, 3, 3, 5, 5, 4, 2, 2, 2, 5, 4, 6, 6]
/-- The cycles of opcodes 0x70 to 0x7F with no page crossed and no branch taken. -/
def cyclesRow7 : List Nat := [2, 5, 1, 8, 4, 4, 6, 6, 2, 4, 2, 7, 4, 4, 7, 7]
/-- The cycles of opcodes 0x80 to 0x8F with no page crossed and no branch taken. -/
def cyclesRow8 : List Nat := [2, 6, 2, 6, 3, 3, 3, 3, 2, 2, 2, 2, 4, 4, 4, 4]
/-- The cycles of opcodes 0x90 to 0x9F with no page crossed and no branch taken. -/
def cyclesRow9 : List Nat := [2, 6, 1, 6, 4, 4, 4, 4, 2, 5, 2, 5, 5, 5, 5, 5]
/-- The cycles of opcodes 0xA0 to 0xAF with no page crossed and no branch taken. -/
def cyclesRowA : List Nat := [2, 6, 2, 6, 3, 3, 3, 3, 2, 2, 2, 2, 4, 4, 4, 4]
/-- The cycles of opcodes 0xB0 to 0xBF with no page crossed and no branch taken. -/
def cyclesRowB : List Nat := [2, 5, 1, 5, 4, 4, 4, 4, 2, 4, 2, 4, 4, 4, 4, 4]
/-- The cycles of opcodes 0xC0 to 0xCF with no page crossed and no branch taken. -/
def cyclesRowC : List Nat := [2, 6, 2, 8, 3, 3, 5, 5, 2, 2, 2, 2, 4, 4, 6, 6]
/-- The cycles of opcodes 0xD0 to 0xDF with no page crossed and no branch taken. -/
def cyclesRowD : List Nat := [2, 5, 1, 8, 4, 4, 6, 6, 2, 4, 2, 7, 4, 4, 7, 7]
/-- The cycles of opcodes 0xE0 to 0xEF with no page crossed and no branch taken. -/
def cyclesRowE : List Nat := [2, 6, 2, 8, 3, 3, 5, 5, 2, 2, 2, 2, 4, 4, 6, 6]
/-- The cycles of opcodes 0xF0 to 0xFF with no page crossed and no branch taken. -/
def cyclesRowF : List Nat := [2, 5, 1, 8, 4, 4, 6, 6, 2, 4, 2, 7, 4, 4, 7, 7]

/-- The cycles column of the listing, a row for each high nibble. -/
def cyclesRows : List (List Nat) :=
  [cyclesRow0, cyclesRow1, cyclesRow2, cyclesRow3, cyclesRow4, cyclesRow5, cyclesRow6, cyclesRow7,
   cyclesRow8, cyclesRow9, cyclesRowA, cyclesRowB, cyclesRowC, cyclesRowD, cyclesRowE, cyclesRowF]

/-- The cycles of an opcode with no page crossed and no branch taken (R169). -/
def baseCycles (op : Byte) : Nat := ((cyclesRows.getD (op.toNat / 16) []).getD (op.toNat % 16) 0)

/-- The extra cycles of a branch at PC, taken when the flag `on` has the value `value` (R170): none when not taken, else
one, and one more when the target lies on another page than the next instruction. -/
def branchCycles (s : State) (on : Flag) (value : Bool) (off8 : Byte) : Nat :=
  let next := s.pc + 2
  if s.flag on = value then (if hi8 (branchTarget next off8) = hi8 next then 1 else 2) else 0

/-- The extra cycles of an instruction over its base count, from the state at its c0 (R170): the page crossings of the
indexed reads, and the branches. -/
def extraCycles : Instr → State → Nat
  | .bpl off8, s => branchCycles s .n false off8
  | .oraIzy ptr8, s => (Mode.izy ptr8).extra s (.oraIzy ptr8)
  | .oraAbsy addr16, s => (Mode.absIndexed .y addr16).extra s (.oraAbsy addr16)
  | .nopAbsx1C addr16, s => (Mode.absIndexed .x addr16).extra s (.nopAbsx1C addr16)
  | .oraAbsx addr16, s => (Mode.absIndexed .x addr16).extra s (.oraAbsx addr16)
  | .bmi off8, s => branchCycles s .n true off8
  | .andIzy ptr8, s => (Mode.izy ptr8).extra s (.andIzy ptr8)
  | .andAbsy addr16, s => (Mode.absIndexed .y addr16).extra s (.andAbsy addr16)
  | .nopAbsx3C addr16, s => (Mode.absIndexed .x addr16).extra s (.nopAbsx3C addr16)
  | .andAbsx addr16, s => (Mode.absIndexed .x addr16).extra s (.andAbsx addr16)
  | .bvc off8, s => branchCycles s .v false off8
  | .eorIzy ptr8, s => (Mode.izy ptr8).extra s (.eorIzy ptr8)
  | .eorAbsy addr16, s => (Mode.absIndexed .y addr16).extra s (.eorAbsy addr16)
  | .nopAbsx5C addr16, s => (Mode.absIndexed .x addr16).extra s (.nopAbsx5C addr16)
  | .eorAbsx addr16, s => (Mode.absIndexed .x addr16).extra s (.eorAbsx addr16)
  | .bvs off8, s => branchCycles s .v true off8
  | .adcIzy ptr8, s => (Mode.izy ptr8).extra s (.adcIzy ptr8)
  | .adcAbsy addr16, s => (Mode.absIndexed .y addr16).extra s (.adcAbsy addr16)
  | .nopAbsx7C addr16, s => (Mode.absIndexed .x addr16).extra s (.nopAbsx7C addr16)
  | .adcAbsx addr16, s => (Mode.absIndexed .x addr16).extra s (.adcAbsx addr16)
  | .bcc off8, s => branchCycles s .c false off8
  | .bcs off8, s => branchCycles s .c true off8
  | .ldaIzy ptr8, s => (Mode.izy ptr8).extra s (.ldaIzy ptr8)
  | .laxIzy ptr8, s => (Mode.izy ptr8).extra s (.laxIzy ptr8)
  | .ldaAbsy addr16, s => (Mode.absIndexed .y addr16).extra s (.ldaAbsy addr16)
  | .lasAbsy addr16, s => (Mode.absIndexed .y addr16).extra s (.lasAbsy addr16)
  | .ldyAbsx addr16, s => (Mode.absIndexed .x addr16).extra s (.ldyAbsx addr16)
  | .ldaAbsx addr16, s => (Mode.absIndexed .x addr16).extra s (.ldaAbsx addr16)
  | .ldxAbsy addr16, s => (Mode.absIndexed .y addr16).extra s (.ldxAbsy addr16)
  | .laxAbsy addr16, s => (Mode.absIndexed .y addr16).extra s (.laxAbsy addr16)
  | .bne off8, s => branchCycles s .z false off8
  | .cmpIzy ptr8, s => (Mode.izy ptr8).extra s (.cmpIzy ptr8)
  | .cmpAbsy addr16, s => (Mode.absIndexed .y addr16).extra s (.cmpAbsy addr16)
  | .nopAbsxDC addr16, s => (Mode.absIndexed .x addr16).extra s (.nopAbsxDC addr16)
  | .cmpAbsx addr16, s => (Mode.absIndexed .x addr16).extra s (.cmpAbsx addr16)
  | .beq off8, s => branchCycles s .z true off8
  | .sbcIzy ptr8, s => (Mode.izy ptr8).extra s (.sbcIzy ptr8)
  | .sbcAbsy addr16, s => (Mode.absIndexed .y addr16).extra s (.sbcAbsy addr16)
  | .nopAbsxFC addr16, s => (Mode.absIndexed .x addr16).extra s (.nopAbsxFC addr16)
  | .sbcAbsx addr16, s => (Mode.absIndexed .x addr16).extra s (.sbcAbsx addr16)
  | _, _ => 0

/-- `n(op, s)` of R170: the Ticks that the instruction runs from the state at its c0. -/
def actualLength (i : Instr) (s : State) : Nat := baseCycles ((encode i).headD 0) + extraCycles i s

end Sys2Proof.Machine
end

