-- ==== Sys2Proof/Machine/Step.lean ====
section
/-! DEFINITION. One step: the Ticks from one instruction boundary to the next (log 3). -/

namespace Sys2Proof.Machine

/-- One step. At a boundary (OpCodeCycle = 0, R52) it is a whole interrupt sequence when one is pending, else the whole
instruction at PC; inside an instruction it finishes that instruction, Tick by Tick (log 15). -/
def step (s : State) : Host.Outcome State Fault Refusal :=
  if s.opCodeCycle = 0 then
    if s.interruptPending then .next s.takeInterrupt else exec s.fetchInstr s
  else finish maxRemainingCycles s

/-- `s` with the instruction whose bits are `w` placed at PC, at a boundary with no signal pending, so that the very next
step fetches and runs it (log 12). -/
def State.withFetchWord (s : State) (nbits w : Nat) : State :=
  let (b0, b1, b2) := tableBytes nbits w
  (s.placeAtPc b0 b1 b2).readyToFetch

end Sys2Proof.Machine
end

