-- ==== Sys2Proof/Machine/Launch.lean ====
section
/-! DEFINITION. Launches and the end of a run (R433). -/

namespace Sys2Proof.Machine

/-- A launch `(E, bytes)` (R433): the address of its end, and the contents of a 64 KB read-write memory. Log 24. -/
structure Launch where
  e : Addr
  bytes : Memory
  deriving DecidableEq, Repr

/-- The bytes at E are `4C lo8(E) hi8(E)`, a jump to itself (R433), and the memory is in its canonical form. -/
def Launch.wf (l : Launch) : Bool :=
  l.bytes.wf && l.bytes.read l.e.toNat == 0x4C && l.bytes.read (l.e + 1).toNat == lo8 l.e &&
    l.bytes.read (l.e + 2).toNat == hi8 l.e

/-- CORE constructed on the launch's memory (R420), before its first Tick. -/
def Launch.start (l : Launch) (decimalEnabled : Bool) : State := State.construct (.flat l.bytes) [] decimalEnabled

/-- The Tick boundary at which a run to `e` ends: OpCodeCycle is 0 and PC is `e`, which is not yet fetched (R433). -/
abbrev State.atEnd (s : State) (e : Addr) : Prop := s.opCodeCycle = 0 ∧ s.pc = e

/-- A run with the listed events before each Tick, up to the first boundary that is an end at `e` (R433): the Ticks it
took, and the end state. None where the list runs out first: a run that has not reached `e` has no end state. -/
def runToEnd (e : Addr) : List (List HostEvent) → State → Option (Nat × State)
  | [], s => if s.atEnd e then some (0, s) else none
  | events :: rest, s =>
    if s.atEnd e then some (0, s)
    else
      match tick (events.foldl State.event s) with
      | .next s' => (runToEnd e rest s').map fun r => (r.1 + 1, r.2)
      | .fault _ => none
      | .refused _ => none

/-- The run of a launch with the host silent, for at most `n` Ticks. -/
def Launch.run (l : Launch) (decimalEnabled : Bool) (n : Nat) : Option (Nat × State) :=
  runToEnd l.e (List.replicate n []) (l.start decimalEnabled)

end Sys2Proof.Machine
end

