-- ==== Sys2Proof/Safety.lean ====
section
/-! DEFINITION. What counts as a good state and a safe run, the vocabulary of the statements, and the opcode tables of the instruction rules as the statements quote them. -/

namespace Sys2Proof.Machine

/-- OpCodeCycle lies inside the table entry of OpCode (R52). -/
abbrev State.inTable (s : State) : Prop := s.opCodeCycle < (microOps s.opCode).length

/-- The invariant of the machine: OpCodeCycle inside its entry (R52), bit 5 of P reads 1 (R39), the environment's storage
in its canonical form. -/
abbrev State.Inv (s : State) : Prop := s.inTable ∧ s.flag .u = true ∧ s.platform.wf = true

/-- Between instructions (R36, R52). -/
abbrev State.atBoundary (s : State) : Prop := s.opCodeCycle = 0

/-- A step is safe when it answers a next state: CORE raises no fault and refuses nothing (R380). -/
abbrev SafeAnswer (r : Answer) : Prop := ∃ t, r = .next t

/-! What an instruction leaves alone, and what it does to the rest of CORE and to the environment. -/

/-- The 8-bit registers that a program sees (R30). -/
inductive Register where
  | a
  | x
  | y
  | s
  deriving DecidableEq, Repr

/-- A register's value. -/
def Register.value : Register → State → Byte
  | .a, st => st.a
  | .x, st => st.x
  | .y, st => st.y
  | .s, st => st.sp

/-- Every register but `rs`, and every flag of P but `fs`, is as before. -/
abbrev ChangesOnly (rs : List Register) (fs : List Flag) (s t : State) : Prop :=
  (∀ r, r ∉ rs → r.value t = r.value s) ∧ (∀ g, g ∉ fs → t.flag g = s.flag g)

/-- The environment has taken no write: where it has no device, which answers by the history, every byte of memory reads
as before. -/
abbrev KeepsMemory (s t : State) : Prop :=
  t.platform = s.platform ∧ (s.platform.passive = true → ∀ q, t.peek q = s.peek q)

/-- The byte at `q` after the bytes `ws` are written, in this order, where it was `old` before. -/
def lastWritten (ws : List (Addr × Byte)) (q : Addr) (old : Byte) : Byte :=
  ws.foldl (fun v c => if c.1 = q then c.2 else v) old

/-- The environment has taken the writes `ws`, in this order, and no other: where it is a 64 KB memory, each address holds
the byte last written there, and every other address reads as before. -/
abbrev Writes (ws : List (Addr × Byte)) (s t : State) : Prop :=
  t.platform = s.platform.after (ws.map fun c => .write c.1 c.2) ∧
    (s.platform.isRam → ∀ q, t.peek q = lastWritten ws q (s.peek q))

/-- The byte `v` is written at `ea` in the last cycle, and nothing else. -/
abbrev StoresByte (ea : Addr) (v : Byte) (s t : State) : Prop :=
  Writes [(ea, v)] s t ∧ t.bus.getLast? = some (.write ea v)

/-- At its effective address, instruction `i` of mode `m` writes back the byte it read, and then in the last cycle `v`. -/
abbrev ModifiesByte (m : Mode) (i : Instr) (v : Byte) (s t : State) : Prop :=
  Writes [(m.ea s i, m.modified s i), (m.ea s i, v)] s t ∧ t.bus.getLast? = some (.write (m.ea s i) v)

/-- The scratch registers are as before (R49, R50). -/
abbrev KeepsScratch (s t : State) : Prop := t.al = s.al ∧ t.ah = s.ah ∧ t.operand = s.operand

/-- What the environment has seen after an instruction or sequence from the boundary `s`: the history before it, and its
bus accesses (R70). -/
abbrev Sees (s t : State) : Prop := t.past = s.history ∧ t.platform = s.platform.after t.bus

/-- The end of an instruction run with the host silent: OpCodeCycle at 0 (R135), the latches polled (R136), the IRQ line
and DECIMAL_ENABLED as before. -/
abbrev Completes (s t : State) : Prop :=
  t.opCodeCycle = 0 ∧ t.irqLevelDetector = s.irqLevelDetector ∧ t.decimalEnabled = s.decimalEnabled ∧
    t.irqSignal = s.irqLevelDetector ∧ t.nmiSignal = (s.nmiSignal || s.nmiEdgeDetector) ∧
    t.nmiEdgeDetector = false ∧ Sees s t

/-- A row of an opcode table: the instruction, its opcode byte, its bytes, and its cycles with no page crossed. -/
structure Form where
  instr : Instr
  opcode : Byte
  bytes : Nat
  cycles : Nat
  deriving DecidableEq, Repr

/-- The row with `n` more cycles. -/
abbrev Form.longer (f : Form) (n : Nat) : Form := { f with cycles := f.cycles + n }

/-- The encoding and the cycles of the row, one bus access in each cycle (R76), and OpCode. -/
abbrev Form.Fits (f : Form) (t : State) : Prop :=
  (encode f.instr).head? = some f.opcode ∧ (encode f.instr).length = f.bytes ∧ t.bus.length = f.cycles ∧
    t.opCode = .op f.opcode

/-- The row is as encoded and takes its cycles, PC moves past its bytes, and the instruction completes. -/
abbrev Form.Runs (f : Form) (s t : State) : Prop :=
  f.Fits t ∧ t.pc = s.pc + BitVec.ofNat 16 f.bytes ∧ Completes s t

/-- The same of a read instruction on the operand `o`: one cycle more on a page crossing (R170), and nothing written. -/
abbrev Form.Reads (f : Form) (o : Source) (s t : State) : Prop :=
  (f.longer (o.extra s f.instr)).Runs s t ∧ KeepsMemory s t

/-! The results of 42_alu.md and 43_shift_incdec.md. -/

/-- SetZN (R7). -/
abbrev SetsZN (v : Byte) (t : State) : Prop := t.flag .z = (v == 0) ∧ t.flag .n = v.getLsbD 7

/-- Binary ADD of R201. -/
abbrev AddsBinary (a v : Byte) (c : Bool) (t : State) : Prop :=
  let sum := a.toNat + v.toNat + c.toNat
  t.a = BitVec.ofNat 8 sum ∧ t.flag .c = decide (sum > 0xFF) ∧
    t.flag .v = ((~~~(a ^^^ v) &&& (a ^^^ BitVec.ofNat 8 sum) &&& 0x80) != 0) ∧ SetsZN (BitVec.ofNat 8 sum) t

/-- Decimal ADD of R202. -/
abbrev AddsDecimal (a v : Byte) (c : Bool) (t : State) : Prop :=
  let low := a.toNat % 16 + v.toNat % 16 + c.toNat
  let high := a.toNat / 16 + v.toNat / 16 + (if low > 9 then 1 else 0)
  let low' := if low > 9 then low + 6 else low
  let high' := if high > 9 then high + 6 else high
  let h := BitVec.ofNat 8 (high * 16)
  t.a = BitVec.ofNat 8 (high' % 16 * 16 + low' % 16) ∧ t.flag .c = decide (high' > 15) ∧
    t.flag .z = ((a.toNat + v.toNat + c.toNat) % 256 == 0) ∧ t.flag .n = ((h &&& 0x80) != 0) ∧
    t.flag .v = (((a ^^^ h) &&& 0x80) != 0 && ((a ^^^ v) &&& 0x80) == 0)

/-- The four flags of binary SUB (R204), which decimal SUB has too (R205). -/
abbrev SubtractFlags (a v : Byte) (c : Bool) (t : State) : Prop :=
  let d : Int := (a.toNat : Int) - v.toNat - (1 - c.toNat)
  t.flag .c = decide (0 ≤ d) ∧ t.flag .v = (((a ^^^ v) &&& (a ^^^ BitVec.ofInt 8 d) &&& 0x80) != 0) ∧
    SetsZN (BitVec.ofInt 8 d) t

/-- Binary SUB of R204. -/
abbrev SubtractsBinary (a v : Byte) (c : Bool) (t : State) : Prop :=
  t.a = BitVec.ofInt 8 ((a.toNat : Int) - v.toNat - (1 - c.toNat)) ∧ SubtractFlags a v c t

/-- Decimal SUB of R205. -/
abbrev SubtractsDecimal (a v : Byte) (c : Bool) (t : State) : Prop :=
  let low : Int := ((a.toNat % 16 : Nat) : Int) - (v.toNat % 16 : Nat) - (1 - c.toNat)
  let high : Int := ((a.toNat / 16 : Nat) : Int) - (v.toNat / 16 : Nat) - (if low < 0 then 1 else 0)
  let low' := if low < 0 then low - 6 else low
  let high' := if high < 0 then high - 6 else high
  t.a = BitVec.ofInt 8 (high' % 16 * 16 + low' % 16) ∧ SubtractFlags a v c t

/-- The compare primitive of R210. -/
abbrev Compares (r v : Byte) (t : State) : Prop := t.flag .c = decide (v.toNat ≤ r.toNat) ∧ SetsZN (r - v) t

/-- The shift primitives of R240. -/
inductive Shift where
  | asl
  | lsr
  | rol
  | ror
  deriving DecidableEq, Repr

/-- The result column of R240, with `c` the carry before. -/
def Shift.result : Shift → Byte → Bool → Byte
  | .asl, v, _ => v <<< 1
  | .lsr, v, _ => v >>> 1
  | .rol, v, c => (v <<< 1) ||| (if c then 0x01 else 0x00)
  | .ror, v, c => (v >>> 1) ||| (if c then 0x80 else 0x00)

/-- The new C of R240. -/
def Shift.carry : Shift → Byte → Bool
  | .asl, v => v.getLsbD 7
  | .lsr, v => v.getLsbD 0
  | .rol, v => v.getLsbD 7
  | .ror, v => v.getLsbD 0

/-! The opcode tables, with `b` the one-byte operand, `w` the two-byte operand, `s` the state before. -/


/-- LDA's opcode table (R180), each row with its operand. -/
def ldaForms (b : Byte) (w : Addr) : List (Form × Source) :=
  [(⟨.ldaIzx b, 0xA1, 2, 6⟩, .mem (.izx b)),
   (⟨.ldaZp b, 0xA5, 2, 3⟩, .mem (.zp b)),
   (⟨.ldaImm b, 0xA9, 2, 2⟩, .imm b),
   (⟨.ldaAbs w, 0xAD, 3, 4⟩, .mem (.abs w)),
   (⟨.ldaIzy b, 0xB1, 2, 5⟩, .mem (.izy b)),
   (⟨.ldaZpx b, 0xB5, 2, 4⟩, .mem (.zpIndexed .x b)),
   (⟨.ldaAbsy w, 0xB9, 3, 4⟩, .mem (.absIndexed .y w)),
   (⟨.ldaAbsx w, 0xBD, 3, 4⟩, .mem (.absIndexed .x w))]

/-- LDX's opcode table (R181), each row with its operand. -/
def ldxForms (b : Byte) (w : Addr) : List (Form × Source) :=
  [(⟨.ldxImm b, 0xA2, 2, 2⟩, .imm b),
   (⟨.ldxZp b, 0xA6, 2, 3⟩, .mem (.zp b)),
   (⟨.ldxAbs w, 0xAE, 3, 4⟩, .mem (.abs w)),
   (⟨.ldxZpy b, 0xB6, 2, 4⟩, .mem (.zpIndexed .y b)),
   (⟨.ldxAbsy w, 0xBE, 3, 4⟩, .mem (.absIndexed .y w))]

/-- LDY's opcode table (R182), each row with its operand. -/
def ldyForms (b : Byte) (w : Addr) : List (Form × Source) :=
  [(⟨.ldyImm b, 0xA0, 2, 2⟩, .imm b),
   (⟨.ldyZp b, 0xA4, 2, 3⟩, .mem (.zp b)),
   (⟨.ldyAbs w, 0xAC, 3, 4⟩, .mem (.abs w)),
   (⟨.ldyZpx b, 0xB4, 2, 4⟩, .mem (.zpIndexed .x b)),
   (⟨.ldyAbsx w, 0xBC, 3, 4⟩, .mem (.absIndexed .x w))]

/-- ADC's opcode table (R200), each row with its operand. -/
def adcForms (b : Byte) (w : Addr) : List (Form × Source) :=
  [(⟨.adcIzx b, 0x61, 2, 6⟩, .mem (.izx b)),
   (⟨.adcZp b, 0x65, 2, 3⟩, .mem (.zp b)),
   (⟨.adcImm b, 0x69, 2, 2⟩, .imm b),
   (⟨.adcAbs w, 0x6D, 3, 4⟩, .mem (.abs w)),
   (⟨.adcIzy b, 0x71, 2, 5⟩, .mem (.izy b)),
   (⟨.adcZpx b, 0x75, 2, 4⟩, .mem (.zpIndexed .x b)),
   (⟨.adcAbsy w, 0x79, 3, 4⟩, .mem (.absIndexed .y w)),
   (⟨.adcAbsx w, 0x7D, 3, 4⟩, .mem (.absIndexed .x w))]

/-- AND's opcode table (R206), each row with its operand. -/
def andForms (b : Byte) (w : Addr) : List (Form × Source) :=
  [(⟨.andIzx b, 0x21, 2, 6⟩, .mem (.izx b)),
   (⟨.andZp b, 0x25, 2, 3⟩, .mem (.zp b)),
   (⟨.andImm b, 0x29, 2, 2⟩, .imm b),
   (⟨.andAbs w, 0x2D, 3, 4⟩, .mem (.abs w)),
   (⟨.andIzy b, 0x31, 2, 5⟩, .mem (.izy b)),
   (⟨.andZpx b, 0x35, 2, 4⟩, .mem (.zpIndexed .x b)),
   (⟨.andAbsy w, 0x39, 3, 4⟩, .mem (.absIndexed .y w)),
   (⟨.andAbsx w, 0x3D, 3, 4⟩, .mem (.absIndexed .x w))]

/-- ORA's opcode table (R207), each row with its operand. -/
def oraForms (b : Byte) (w : Addr) : List (Form × Source) :=
  [(⟨.oraIzx b, 0x01, 2, 6⟩, .mem (.izx b)),
   (⟨.oraZp b, 0x05, 2, 3⟩, .mem (.zp b)),
   (⟨.oraImm b, 0x09, 2, 2⟩, .imm b),
   (⟨.oraAbs w, 0x0D, 3, 4⟩, .mem (.abs w)),
   (⟨.oraIzy b, 0x11, 2, 5⟩, .mem (.izy b)),
   (⟨.oraZpx b, 0x15, 2, 4⟩, .mem (.zpIndexed .x b)),
   (⟨.oraAbsy w, 0x19, 3, 4⟩, .mem (.absIndexed .y w)),
   (⟨.oraAbsx w, 0x1D, 3, 4⟩, .mem (.absIndexed .x w))]

/-- EOR's opcode table (R208), each row with its operand. -/
def eorForms (b : Byte) (w : Addr) : List (Form × Source) :=
  [(⟨.eorIzx b, 0x41, 2, 6⟩, .mem (.izx b)),
   (⟨.eorZp b, 0x45, 2, 3⟩, .mem (.zp b)),
   (⟨.eorImm b, 0x49, 2, 2⟩, .imm b),
   (⟨.eorAbs w, 0x4D, 3, 4⟩, .mem (.abs w)),
   (⟨.eorIzy b, 0x51, 2, 5⟩, .mem (.izy b)),
   (⟨.eorZpx b, 0x55, 2, 4⟩, .mem (.zpIndexed .x b)),
   (⟨.eorAbsy w, 0x59, 3, 4⟩, .mem (.absIndexed .y w)),
   (⟨.eorAbsx w, 0x5D, 3, 4⟩, .mem (.absIndexed .x w))]

/-- BIT's opcode table (R209), each row with its operand. -/
def bitForms (b : Byte) (w : Addr) : List (Form × Source) :=
  [(⟨.bitZp b, 0x24, 2, 3⟩, .mem (.zp b)),
   (⟨.bitAbs w, 0x2C, 3, 4⟩, .mem (.abs w))]

/-- CMP's opcode table (R211), each row with its operand. -/
def cmpForms (b : Byte) (w : Addr) : List (Form × Source) :=
  [(⟨.cmpIzx b, 0xC1, 2, 6⟩, .mem (.izx b)),
   (⟨.cmpZp b, 0xC5, 2, 3⟩, .mem (.zp b)),
   (⟨.cmpImm b, 0xC9, 2, 2⟩, .imm b),
   (⟨.cmpAbs w, 0xCD, 3, 4⟩, .mem (.abs w)),
   (⟨.cmpIzy b, 0xD1, 2, 5⟩, .mem (.izy b)),
   (⟨.cmpZpx b, 0xD5, 2, 4⟩, .mem (.zpIndexed .x b)),
   (⟨.cmpAbsy w, 0xD9, 3, 4⟩, .mem (.absIndexed .y w)),
   (⟨.cmpAbsx w, 0xDD, 3, 4⟩, .mem (.absIndexed .x w))]

/-- CPX's opcode table (R212), each row with its operand. -/
def cpxForms (b : Byte) (w : Addr) : List (Form × Source) :=
  [(⟨.cpxImm b, 0xE0, 2, 2⟩, .imm b),
   (⟨.cpxZp b, 0xE4, 2, 3⟩, .mem (.zp b)),
   (⟨.cpxAbs w, 0xEC, 3, 4⟩, .mem (.abs w))]

/-- CPY's opcode table (R213), each row with its operand. -/
def cpyForms (b : Byte) (w : Addr) : List (Form × Source) :=
  [(⟨.cpyImm b, 0xC0, 2, 2⟩, .imm b),
   (⟨.cpyZp b, 0xC4, 2, 3⟩, .mem (.zp b)),
   (⟨.cpyAbs w, 0xCC, 3, 4⟩, .mem (.abs w))]

/-- LAX's opcode table (R336), each row with its operand. -/
def laxForms (b : Byte) (w : Addr) : List (Form × Source) :=
  [(⟨.laxIzx b, 0xA3, 2, 6⟩, .mem (.izx b)),
   (⟨.laxZp b, 0xA7, 2, 3⟩, .mem (.zp b)),
   (⟨.laxAbs w, 0xAF, 3, 4⟩, .mem (.abs w)),
   (⟨.laxIzy b, 0xB3, 2, 5⟩, .mem (.izy b)),
   (⟨.laxZpy b, 0xB7, 2, 4⟩, .mem (.zpIndexed .y b)),
   (⟨.laxAbsy w, 0xBF, 3, 4⟩, .mem (.absIndexed .y w))]

/-- LAS's opcode table (R350), each row with its operand. -/
def lasForms (_b : Byte) (w : Addr) : List (Form × Source) :=
  [(⟨.lasAbsy w, 0xBB, 3, 4⟩, .mem (.absIndexed .y w))]

/-- SBC's opcode table with USBC (R203, R345), each row with its operand. -/
def sbcForms (b : Byte) (w : Addr) : List (Form × Source) :=
  [(⟨.sbcIzx b, 0xE1, 2, 6⟩, .mem (.izx b)),
   (⟨.sbcZp b, 0xE5, 2, 3⟩, .mem (.zp b)),
   (⟨.sbcImm b, 0xE9, 2, 2⟩, .imm b),
   (⟨.sbcAbs w, 0xED, 3, 4⟩, .mem (.abs w)),
   (⟨.sbcIzy b, 0xF1, 2, 5⟩, .mem (.izy b)),
   (⟨.sbcZpx b, 0xF5, 2, 4⟩, .mem (.zpIndexed .x b)),
   (⟨.sbcAbsy w, 0xF9, 3, 4⟩, .mem (.absIndexed .y w)),
   (⟨.sbcAbsx w, 0xFD, 3, 4⟩, .mem (.absIndexed .x w)),
   (⟨.usbcImm b, 0xEB, 2, 2⟩, .imm b)]

/-- STA's opcode table (R183), each row with its mode. -/
def staForms (b : Byte) (w : Addr) : List (Form × Mode) :=
  [(⟨.staIzx b, 0x81, 2, 6⟩, .izx b),
   (⟨.staZp b, 0x85, 2, 3⟩, .zp b),
   (⟨.staAbs w, 0x8D, 3, 4⟩, .abs w),
   (⟨.staIzy b, 0x91, 2, 6⟩, .izy b),
   (⟨.staZpx b, 0x95, 2, 4⟩, .zpIndexed .x b),
   (⟨.staAbsy w, 0x99, 3, 5⟩, .absIndexed .y w),
   (⟨.staAbsx w, 0x9D, 3, 5⟩, .absIndexed .x w)]

/-- STX's opcode table (R184), each row with its mode. -/
def stxForms (b : Byte) (w : Addr) : List (Form × Mode) :=
  [(⟨.stxZp b, 0x86, 2, 3⟩, .zp b),
   (⟨.stxAbs w, 0x8E, 3, 4⟩, .abs w),
   (⟨.stxZpy b, 0x96, 2, 4⟩, .zpIndexed .y b)]

/-- STY's opcode table (R185), each row with its mode. -/
def styForms (b : Byte) (w : Addr) : List (Form × Mode) :=
  [(⟨.styZp b, 0x84, 2, 3⟩, .zp b),
   (⟨.styAbs w, 0x8C, 3, 4⟩, .abs w),
   (⟨.styZpx b, 0x94, 2, 4⟩, .zpIndexed .x b)]

/-- SAX's opcode table (R335), each row with its mode. -/
def saxForms (b : Byte) (w : Addr) : List (Form × Mode) :=
  [(⟨.saxIzx b, 0x83, 2, 6⟩, .izx b),
   (⟨.saxZp b, 0x87, 2, 3⟩, .zp b),
   (⟨.saxAbs w, 0x8F, 3, 4⟩, .abs w),
   (⟨.saxZpy b, 0x97, 2, 4⟩, .zpIndexed .y b)]

/-- INC's opcodes (R249), each row with its mode. -/
def incForms (b : Byte) (w : Addr) : List (Form × Mode) :=
  [(⟨.incZp b, 0xE6, 2, 5⟩, .zp b),
   (⟨.incAbs w, 0xEE, 3, 6⟩, .abs w),
   (⟨.incZpx b, 0xF6, 2, 6⟩, .zpIndexed .x b),
   (⟨.incAbsx w, 0xFE, 3, 7⟩, .absIndexed .x w)]

/-- DEC's opcodes (R250), each row with its mode. -/
def decForms (b : Byte) (w : Addr) : List (Form × Mode) :=
  [(⟨.decZp b, 0xC6, 2, 5⟩, .zp b),
   (⟨.decAbs w, 0xCE, 3, 6⟩, .abs w),
   (⟨.decZpx b, 0xD6, 2, 6⟩, .zpIndexed .x b),
   (⟨.decAbsx w, 0xDE, 3, 7⟩, .absIndexed .x w)]

/-- SLO's opcodes (R331), each row with its mode. -/
def sloForms (b : Byte) (w : Addr) : List (Form × Mode) :=
  [(⟨.sloIzx b, 0x03, 2, 8⟩, .izx b),
   (⟨.sloZp b, 0x07, 2, 5⟩, .zp b),
   (⟨.sloAbs w, 0x0F, 3, 6⟩, .abs w),
   (⟨.sloIzy b, 0x13, 2, 8⟩, .izy b),
   (⟨.sloZpx b, 0x17, 2, 6⟩, .zpIndexed .x b),
   (⟨.sloAbsy w, 0x1B, 3, 7⟩, .absIndexed .y w),
   (⟨.sloAbsx w, 0x1F, 3, 7⟩, .absIndexed .x w)]

/-- RLA's opcodes (R332), each row with its mode. -/
def rlaForms (b : Byte) (w : Addr) : List (Form × Mode) :=
  [(⟨.rlaIzx b, 0x23, 2, 8⟩, .izx b),
   (⟨.rlaZp b, 0x27, 2, 5⟩, .zp b),
   (⟨.rlaAbs w, 0x2F, 3, 6⟩, .abs w),
   (⟨.rlaIzy b, 0x33, 2, 8⟩, .izy b),
   (⟨.rlaZpx b, 0x37, 2, 6⟩, .zpIndexed .x b),
   (⟨.rlaAbsy w, 0x3B, 3, 7⟩, .absIndexed .y w),
   (⟨.rlaAbsx w, 0x3F, 3, 7⟩, .absIndexed .x w)]

/-- SRE's opcodes (R333), each row with its mode. -/
def sreForms (b : Byte) (w : Addr) : List (Form × Mode) :=
  [(⟨.sreIzx b, 0x43, 2, 8⟩, .izx b),
   (⟨.sreZp b, 0x47, 2, 5⟩, .zp b),
   (⟨.sreAbs w, 0x4F, 3, 6⟩, .abs w),
   (⟨.sreIzy b, 0x53, 2, 8⟩, .izy b),
   (⟨.sreZpx b, 0x57, 2, 6⟩, .zpIndexed .x b),
   (⟨.sreAbsy w, 0x5B, 3, 7⟩, .absIndexed .y w),
   (⟨.sreAbsx w, 0x5F, 3, 7⟩, .absIndexed .x w)]

/-- RRA's opcodes (R334), each row with its mode. -/
def rraForms (b : Byte) (w : Addr) : List (Form × Mode) :=
  [(⟨.rraIzx b, 0x63, 2, 8⟩, .izx b),
   (⟨.rraZp b, 0x67, 2, 5⟩, .zp b),
   (⟨.rraAbs w, 0x6F, 3, 6⟩, .abs w),
   (⟨.rraIzy b, 0x73, 2, 8⟩, .izy b),
   (⟨.rraZpx b, 0x77, 2, 6⟩, .zpIndexed .x b),
   (⟨.rraAbsy w, 0x7B, 3, 7⟩, .absIndexed .y w),
   (⟨.rraAbsx w, 0x7F, 3, 7⟩, .absIndexed .x w)]

/-- DCP's opcodes (R337), each row with its mode. -/
def dcpForms (b : Byte) (w : Addr) : List (Form × Mode) :=
  [(⟨.dcpIzx b, 0xC3, 2, 8⟩, .izx b),
   (⟨.dcpZp b, 0xC7, 2, 5⟩, .zp b),
   (⟨.dcpAbs w, 0xCF, 3, 6⟩, .abs w),
   (⟨.dcpIzy b, 0xD3, 2, 8⟩, .izy b),
   (⟨.dcpZpx b, 0xD7, 2, 6⟩, .zpIndexed .x b),
   (⟨.dcpAbsy w, 0xDB, 3, 7⟩, .absIndexed .y w),
   (⟨.dcpAbsx w, 0xDF, 3, 7⟩, .absIndexed .x w)]

/-- ISC's opcodes (R338), each row with its mode. -/
def iscForms (b : Byte) (w : Addr) : List (Form × Mode) :=
  [(⟨.iscIzx b, 0xE3, 2, 8⟩, .izx b),
   (⟨.iscZp b, 0xE7, 2, 5⟩, .zp b),
   (⟨.iscAbs w, 0xEF, 3, 6⟩, .abs w),
   (⟨.iscIzy b, 0xF3, 2, 8⟩, .izy b),
   (⟨.iscZpx b, 0xF7, 2, 6⟩, .zpIndexed .x b),
   (⟨.iscAbsy w, 0xFB, 3, 7⟩, .absIndexed .y w),
   (⟨.iscAbsx w, 0xFF, 3, 7⟩, .absIndexed .x w)]

/-- The memory opcodes of each shift (R242, R244, R246, R248), each row with its mode. -/
def shiftForms (k : Shift) (b : Byte) (w : Addr) : List (Form × Mode) :=
  match k with
  | .asl =>
    [(⟨.aslZp b, 0x06, 2, 5⟩, .zp b),
     (⟨.aslAbs w, 0x0E, 3, 6⟩, .abs w),
     (⟨.aslZpx b, 0x16, 2, 6⟩, .zpIndexed .x b),
     (⟨.aslAbsx w, 0x1E, 3, 7⟩, .absIndexed .x w)]
  | .lsr =>
    [(⟨.lsrZp b, 0x46, 2, 5⟩, .zp b),
     (⟨.lsrAbs w, 0x4E, 3, 6⟩, .abs w),
     (⟨.lsrZpx b, 0x56, 2, 6⟩, .zpIndexed .x b),
     (⟨.lsrAbsx w, 0x5E, 3, 7⟩, .absIndexed .x w)]
  | .rol =>
    [(⟨.rolZp b, 0x26, 2, 5⟩, .zp b),
     (⟨.rolAbs w, 0x2E, 3, 6⟩, .abs w),
     (⟨.rolZpx b, 0x36, 2, 6⟩, .zpIndexed .x b),
     (⟨.rolAbsx w, 0x3E, 3, 7⟩, .absIndexed .x w)]
  | .ror =>
    [(⟨.rorZp b, 0x66, 2, 5⟩, .zp b),
     (⟨.rorAbs w, 0x6E, 3, 6⟩, .abs w),
     (⟨.rorZpx b, 0x76, 2, 6⟩, .zpIndexed .x b),
     (⟨.rorAbsx w, 0x7E, 3, 7⟩, .absIndexed .x w)]

/-- The implied NOPs (R311, R351). -/
def nopForms : List Form :=
  [⟨.nopImp1A, 0x1A, 1, 2⟩,
   ⟨.nopImp3A, 0x3A, 1, 2⟩,
   ⟨.nopImp5A, 0x5A, 1, 2⟩,
   ⟨.nopImp7A, 0x7A, 1, 2⟩,
   ⟨.nopImpDA, 0xDA, 1, 2⟩,
   ⟨.nop, 0xEA, 1, 2⟩,
   ⟨.nopImpFA, 0xFA, 1, 2⟩]

/-- The NOPs with an operand (R352, R353), each row with it. -/
def nopReadForms (b : Byte) (w : Addr) : List (Form × Source) :=
  [(⟨.nopZp04 b, 0x04, 2, 3⟩, .mem (.zp b)),
   (⟨.nopAbs0C w, 0x0C, 3, 4⟩, .mem (.abs w)),
   (⟨.nopZpx14 b, 0x14, 2, 4⟩, .mem (.zpIndexed .x b)),
   (⟨.nopAbsx1C w, 0x1C, 3, 4⟩, .mem (.absIndexed .x w)),
   (⟨.nopZpx34 b, 0x34, 2, 4⟩, .mem (.zpIndexed .x b)),
   (⟨.nopAbsx3C w, 0x3C, 3, 4⟩, .mem (.absIndexed .x w)),
   (⟨.nopZp44 b, 0x44, 2, 3⟩, .mem (.zp b)),
   (⟨.nopZpx54 b, 0x54, 2, 4⟩, .mem (.zpIndexed .x b)),
   (⟨.nopAbsx5C w, 0x5C, 3, 4⟩, .mem (.absIndexed .x w)),
   (⟨.nopZp64 b, 0x64, 2, 3⟩, .mem (.zp b)),
   (⟨.nopZpx74 b, 0x74, 2, 4⟩, .mem (.zpIndexed .x b)),
   (⟨.nopAbsx7C w, 0x7C, 3, 4⟩, .mem (.absIndexed .x w)),
   (⟨.nopImm80 b, 0x80, 2, 2⟩, .imm b),
   (⟨.nopImm82 b, 0x82, 2, 2⟩, .imm b),
   (⟨.nopImm89 b, 0x89, 2, 2⟩, .imm b),
   (⟨.nopImmC2 b, 0xC2, 2, 2⟩, .imm b),
   (⟨.nopZpxD4 b, 0xD4, 2, 4⟩, .mem (.zpIndexed .x b)),
   (⟨.nopAbsxDC w, 0xDC, 3, 4⟩, .mem (.absIndexed .x w)),
   (⟨.nopImmE2 b, 0xE2, 2, 2⟩, .imm b),
   (⟨.nopZpxF4 b, 0xF4, 2, 4⟩, .mem (.zpIndexed .x b)),
   (⟨.nopAbsxFC w, 0xFC, 3, 4⟩, .mem (.absIndexed .x w))]

/-- The branches (R270), each row with the flag it tests and the value that takes it. -/
def branchForms (b : Byte) (s : State) : List (Form × Flag × Bool) :=
  [(⟨.bpl b, 0x10, 2, 2 + branchCycles s .n false b⟩, .n, false),
   (⟨.bmi b, 0x30, 2, 2 + branchCycles s .n true b⟩, .n, true),
   (⟨.bvc b, 0x50, 2, 2 + branchCycles s .v false b⟩, .v, false),
   (⟨.bvs b, 0x70, 2, 2 + branchCycles s .v true b⟩, .v, true),
   (⟨.bcc b, 0x90, 2, 2 + branchCycles s .c false b⟩, .c, false),
   (⟨.bcs b, 0xB0, 2, 2 + branchCycles s .c true b⟩, .c, true),
   (⟨.bne b, 0xD0, 2, 2 + branchCycles s .z false b⟩, .z, false),
   (⟨.beq b, 0xF0, 2, 2 + branchCycles s .z true b⟩, .z, true)]

/-- The JAM slots (R354). -/
def jamForms : List Form :=
  [⟨.jam02, 0x02, 1, 1⟩,
   ⟨.jam12, 0x12, 1, 1⟩,
   ⟨.jam22, 0x22, 1, 1⟩,
   ⟨.jam32, 0x32, 1, 1⟩,
   ⟨.jam42, 0x42, 1, 1⟩,
   ⟨.jam52, 0x52, 1, 1⟩,
   ⟨.jam62, 0x62, 1, 1⟩,
   ⟨.jam72, 0x72, 1, 1⟩,
   ⟨.jam92, 0x92, 1, 1⟩,
   ⟨.jamB2, 0xB2, 1, 1⟩,
   ⟨.jamD2, 0xD2, 1, 1⟩,
   ⟨.jamF2, 0xF2, 1, 1⟩]

/-- SHA, SHX and SHY (R346 to R348): each row with its mode and source. -/
def shForms (b : Byte) (w : Addr) (s : State) : List (Form × Mode × Byte) :=
  [(⟨.shaIzy b, 0x93, 2, 6⟩, .izy b, s.a &&& s.x),
   (⟨.shaAbsy w, 0x9F, 3, 5⟩, .absIndexed .y w, s.a &&& s.x),
   (⟨.shxAbsy w, 0x9E, 3, 5⟩, .absIndexed .y w, s.x),
   (⟨.shyAbsx w, 0x9C, 3, 5⟩, .absIndexed .x w, s.y)]

/-- The zero page reads. -/
def zpReads : List (Byte → Instr) :=
  [.nopZp04, .oraZp, .bitZp, .andZp, .nopZp44, .eorZp, .nopZp64, .adcZp, .ldyZp, .ldaZp, .ldxZp, .laxZp,
   .cpyZp, .cmpZp, .cpxZp, .sbcZp]

/-- The zero page writes. -/
def zpWrites : List (Byte → Instr) :=
  [.styZp, .staZp, .stxZp, .saxZp]

/-- The zero page read-modify-writes. -/
def zpRmws : List (Byte → Instr) :=
  [.aslZp, .sloZp, .rolZp, .rlaZp, .lsrZp, .sreZp, .rorZp, .rraZp, .decZp, .dcpZp, .incZp, .iscZp]

/-- The absolute reads. -/
def absReads : List (Addr → Instr) :=
  [.nopAbs0C, .oraAbs, .bitAbs, .andAbs, .eorAbs, .adcAbs, .ldyAbs, .ldaAbs, .ldxAbs, .laxAbs, .cpyAbs,
   .cmpAbs, .cpxAbs, .sbcAbs]

/-- The absolute writes. -/
def absWrites : List (Addr → Instr) :=
  [.styAbs, .staAbs, .stxAbs, .saxAbs]

/-- The absolute read-modify-writes. -/
def absRmws : List (Addr → Instr) :=
  [.aslAbs, .sloAbs, .rolAbs, .rlaAbs, .lsrAbs, .sreAbs, .rorAbs, .rraAbs, .decAbs, .dcpAbs, .incAbs, .iscAbs]

/-- The (zp,X) reads. -/
def izxReads : List (Byte → Instr) :=
  [.oraIzx, .andIzx, .eorIzx, .adcIzx, .ldaIzx, .laxIzx, .cmpIzx, .sbcIzx]

/-- The (zp,X) writes. -/
def izxWrites : List (Byte → Instr) :=
  [.staIzx, .saxIzx]

/-- The (zp,X) read-modify-writes. -/
def izxRmws : List (Byte → Instr) :=
  [.sloIzx, .rlaIzx, .sreIzx, .rraIzx, .dcpIzx, .iscIzx]

/-- The (zp),Y reads. -/
def izyReads : List (Byte → Instr) :=
  [.oraIzy, .andIzy, .eorIzy, .adcIzy, .ldaIzy, .laxIzy, .cmpIzy, .sbcIzy]

/-- The (zp),Y writes, SHA, SHX, SHY and TAS apart. -/
def izyWrites : List (Byte → Instr) :=
  [.staIzy]

/-- The (zp),Y read-modify-writes. -/
def izyRmws : List (Byte → Instr) :=
  [.sloIzy, .rlaIzy, .sreIzy, .rraIzy, .dcpIzy, .iscIzy]

/-- The zero page indexed reads. -/
def zpIndexedReads : List (Index × (Byte → Instr)) :=
  [(.x, .nopZpx14), (.x, .oraZpx), (.x, .nopZpx34), (.x, .andZpx), (.x, .nopZpx54), (.x, .eorZpx),
   (.x, .nopZpx74), (.x, .adcZpx), (.x, .ldyZpx), (.x, .ldaZpx), (.y, .ldxZpy), (.y, .laxZpy), (.x, .nopZpxD4),
   (.x, .cmpZpx), (.x, .nopZpxF4), (.x, .sbcZpx)]

/-- The zero page indexed writes. -/
def zpIndexedWrites : List (Index × (Byte → Instr)) :=
  [(.x, .styZpx), (.x, .staZpx), (.y, .stxZpy), (.y, .saxZpy)]

/-- The zero page indexed read-modify-writes. -/
def zpIndexedRmws : List (Index × (Byte → Instr)) :=
  [(.x, .aslZpx), (.x, .sloZpx), (.x, .rolZpx), (.x, .rlaZpx), (.x, .lsrZpx), (.x, .sreZpx), (.x, .rorZpx),
   (.x, .rraZpx), (.x, .decZpx), (.x, .dcpZpx), (.x, .incZpx), (.x, .iscZpx)]

/-- The absolute indexed reads. -/
def absIndexedReads : List (Index × (Addr → Instr)) :=
  [(.y, .oraAbsy), (.x, .nopAbsx1C), (.x, .oraAbsx), (.y, .andAbsy), (.x, .nopAbsx3C), (.x, .andAbsx),
   (.y, .eorAbsy), (.x, .nopAbsx5C), (.x, .eorAbsx), (.y, .adcAbsy), (.x, .nopAbsx7C), (.x, .adcAbsx),
   (.y, .ldaAbsy), (.y, .lasAbsy), (.x, .ldyAbsx), (.x, .ldaAbsx), (.y, .ldxAbsy), (.y, .laxAbsy),
   (.y, .cmpAbsy), (.x, .nopAbsxDC), (.x, .cmpAbsx), (.y, .sbcAbsy), (.x, .nopAbsxFC), (.x, .sbcAbsx)]

/-- The absolute indexed writes, SHA, SHX, SHY and TAS apart. -/
def absIndexedWrites : List (Index × (Addr → Instr)) :=
  [(.y, .staAbsy), (.x, .staAbsx)]

/-- The absolute indexed read-modify-writes. -/
def absIndexedRmws : List (Index × (Addr → Instr)) :=
  [(.y, .sloAbsy), (.x, .aslAbsx), (.x, .sloAbsx), (.y, .rlaAbsy), (.x, .rolAbsx), (.x, .rlaAbsx),
   (.y, .sreAbsy), (.x, .lsrAbsx), (.x, .sreAbsx), (.y, .rraAbsy), (.x, .rorAbsx), (.x, .rraAbsx),
   (.y, .dcpAbsy), (.x, .decAbsx), (.x, .dcpAbsx), (.y, .iscAbsy), (.x, .incAbsx), (.x, .iscAbsx)]

/-- The absolute indexed stores of R355. -/
def absIndexedHighStores : List (Index × (Addr → Instr)) :=
  [(.y, .tasAbsy), (.x, .shyAbsx), (.y, .shxAbsy), (.y, .shaAbsy)]

/-- The implied and accumulator instructions of two cycles (R142, R143). -/
def impliedInstrs : List Instr :=
  [.aslAcc, .clc, .nopImp1A, .rolAcc, .sec, .nopImp3A, .lsrAcc, .cli, .nopImp5A, .rorAcc, .sei, .nopImp7A,
   .dey, .txa, .tya, .txs, .tay, .tax, .clv, .tsx, .iny, .dex, .cld, .nopImpDA, .inx, .nop, .sed, .nopImpFA]

/-- The immediate instructions (R144). -/
def immediateInstrs : List (Byte → Instr) :=
  [.oraImm, .ancImm0B, .andImm, .ancImm2B, .eorImm, .alrImm, .adcImm, .arrImm, .nopImm80, .nopImm82, .nopImm89,
   .aneImm, .ldyImm, .ldxImm, .ldaImm, .lxaImm, .cpyImm, .nopImmC2, .cmpImm, .sbxImm, .cpxImm, .nopImmE2,
   .sbcImm, .usbcImm]

/-- The instructions that write I, each with the value it writes (R306, R307, R303, R283): PLP and RTI pull it. -/
def interruptFlagForms (s : State) : List (Instr × Bool) :=
  let pulled (i : Instr) : Byte := s.answer (s.thenRead (fetchImplied s i) (wordOf 0x01 s.sp)) (wordOf 0x01 (s.sp + 1))
  [(.cli, false),
   (.sei, true),
   (.plp, (pulled .plp).getLsbD 2),
   (.rti, (pulled .rti).getLsbD 2)]

/-- The transfers but TXS (R186 to R190), each with the byte it copies and the register it copies it to. -/
def transferForms (s : State) : List (Form × Byte × Register) :=
  [(⟨.tax, 0xAA, 1, 2⟩, s.a, .x),
   (⟨.tay, 0xA8, 1, 2⟩, s.a, .y),
   (⟨.txa, 0x8A, 1, 2⟩, s.x, .a),
   (⟨.tya, 0x98, 1, 2⟩, s.y, .a),
   (⟨.tsx, 0xBA, 1, 2⟩, s.sp, .x)]

/-- The accumulator forms of the shifts (R241, R243, R245, R247). -/
def accumulatorForms : List (Form × Shift) :=
  [(⟨.aslAcc, 0x0A, 1, 2⟩, .asl),
   (⟨.lsrAcc, 0x4A, 1, 2⟩, .lsr),
   (⟨.rolAcc, 0x2A, 1, 2⟩, .rol),
   (⟨.rorAcc, 0x6A, 1, 2⟩, .ror)]

/-- INX, INY, DEX and DEY (R251 to R254), each with its register and the value it gets. -/
def countForms (s : State) : List (Form × Register × Byte) :=
  [(⟨.inx, 0xE8, 1, 2⟩, .x, s.x + 1),
   (⟨.iny, 0xC8, 1, 2⟩, .y, s.y + 1),
   (⟨.dex, 0xCA, 1, 2⟩, .x, s.x - 1),
   (⟨.dey, 0x88, 1, 2⟩, .y, s.y - 1)]

/-- The flag instructions (R304 to R310), each with its flag and the value it gets. -/
def flagForms : List (Form × Flag × Bool) :=
  [(⟨.clc, 0x18, 1, 2⟩, .c, false),
   (⟨.sec, 0x38, 1, 2⟩, .c, true),
   (⟨.cli, 0x58, 1, 2⟩, .i, false),
   (⟨.sei, 0x78, 1, 2⟩, .i, true),
   (⟨.cld, 0xD8, 1, 2⟩, .d, false),
   (⟨.sed, 0xF8, 1, 2⟩, .d, true),
   (⟨.clv, 0xB8, 1, 2⟩, .v, false)]

/-- PHA and PHP (R300, R301), each with the byte it pushes. -/
def pushForms (s : State) : List (Form × Byte) :=
  [(⟨.pha, 0x48, 1, 3⟩, s.a),
   (⟨.php, 0x08, 1, 3⟩, (s.p &&& 0xCF) ||| 0x30)]

/-- ANC (R339), in both slots. -/
def ancForms (b : Byte) : List Form :=
  [⟨.ancImm0B b, 0x0B, 2, 2⟩,
   ⟨.ancImm2B b, 0x2B, 2, 2⟩]

end Sys2Proof.Machine
end

