-- ==== Sys2Proof/Certificates/Slice0/Obligations.lean ====
section
/-! DEFINITION. The statements for the provers, each with the rules of spec/ it formalises. -/

open Sys2Proof Sys2Proof.Machine

/-- Words of the opcode map R106 decode as the map says, operands low byte first (R103). -/
def Obligations.SpecWordsDecodeAsTheOpcodeMapSays : Prop :=
  decode [0xBD, 0x34, 0x12] = .ok (.ldaAbsx 0x1234, []) ∧
  decode [0x71, 0x20] = .ok (.adcIzy 0x20, []) ∧
  decode [0x06, 0x10] = .ok (.aslZp 0x10, []) ∧
  decode [0xD0, 0xF8] = .ok (.bne 0xF8, []) ∧
  decode [0x6C, 0xFF, 0x10] = .ok (.jmpInd 0x10FF, []) ∧
  decode [0x48] = .ok (.pha, []) ∧
  decode [0x03, 0x20] = .ok (.sloIzx 0x20, []) ∧
  decode [0x9E, 0xFF, 0x12] = .ok (.shxAbsy 0x12FF, []) ∧
  decode [0x02] = .ok (.jam02, [])

/-- Round trip over every instruction, with every operand at every value (R100, R103, R106): no bit of an encoding is
dropped. -/
def Obligations.DecodeUndoesEncode : Prop :=
  ∀ (i : Instr) (rest : List Byte), decode (encode i ++ rest) = .ok (i, rest)

/-- The other direction of the round trip: an instruction has one encoding (R105, R106). -/
def Obligations.EncodeUndoesDecode : Prop :=
  ∀ (bytes rest : List Byte) (i : Instr), decode bytes = .ok (i, rest) → bytes = encode i ++ rest

/-- R105 (decoding is total), R100 and R115 (the opcode byte alone fixes the length). The refusal of a word cut short is
the model's own. -/
def Obligations.DecodingIsTotalAndTheOpcodeFixesTheLength : Prop :=
  (∀ (b0 b1 b2 : Byte) (rest : List Byte),
    1 ≤ opcodeLength b0 ∧ opcodeLength b0 ≤ 3 ∧
      ∃ i, decode (b0 :: b1 :: b2 :: rest) = .ok (i, (b0 :: b1 :: b2 :: rest).drop (opcodeLength b0)) ∧
        (encode i).length = opcodeLength b0 ∧ (encode i).head? = some b0) ∧
  (∀ (b0 : Byte) (rest : List Byte),
    (b0 :: rest).length < opcodeLength b0 → decode (b0 :: rest) = .error (.missingOperand b0)) ∧
  decode [] = .error .noOpcode

/-- R60, R420, R421, for every environment and every past of it; R423 (memory and devices are not reset). State.reset is
the construction on one empty 64 KB memory with decimal arithmetic enabled: those are the model's choice (logs 1, 2
and 5). -/
def Obligations.ConstructionLeavesTheResetValues : Prop :=
  (∀ (p : Platform) (h : List BusAccess) (d : Bool),
    let s := State.construct p h d
    let low := p.read h 0xFFFC
    let high := p.read (h ++ [.read 0xFFFC low]) 0xFFFD
    s.a = 0x00 ∧ s.x = 0x00 ∧ s.y = 0x00 ∧ s.sp = 0xFD ∧ s.p = 0x34 ∧ s.al = 0x00 ∧ s.ah = 0x00 ∧ s.operand = 0x00 ∧
      s.opCode = .op 0x00 ∧ s.opCodeCycle = 0 ∧ s.irqLevelDetector = false ∧ s.irqSignal = false ∧
      s.nmiEdgeDetector = false ∧ s.nmiSignal = false ∧ s.decimalEnabled = d ∧ s.platform = p ∧
      s.pc = wordOf high low ∧ s.past = h ∧ s.bus = [.read 0xFFFC low, .read 0xFFFD high]) ∧
  (∀ (s : State) (d : Bool), let t := s.reconstruct d
    t.platform = s.platform ∧ t.history = s.history ++ [.read 0xFFFC (lo8 t.pc), .read 0xFFFD (hi8 t.pc)]) ∧
  State.reset = State.construct (.flat []) [] true

/-- The invariant holds where a run starts (R39, R52, R60). -/
def Obligations.ResetMeetsTheInvariant : Prop :=
  State.reset.Inv ∧ ∀ (p : Platform) (h : List BusAccess) (d : Bool), p.wf = true → (State.construct p h d).Inv

/-- R394: the host's three calls. -/
def Obligations.HostCallsChangeOneDetectorEach : Prop :=
  ∀ s : State,
  s.call .setIrq = { s with irqLevelDetector := true } ∧
  s.call .clearIrq = { s with irqLevelDetector := false } ∧
  s.call .setNmi = { s with nmiEdgeDetector := true }

/-- How step uses exec (R105, R133). That one step is one instruction, and that a step from inside an instruction
finishes it, are the model's choices (logs 3 and 15). -/
def Obligations.StepRunsTheDecodedInstruction : Prop :=
  (∀ (s : State) (i : Instr) (rest : List Byte), s.opCodeCycle = 0 → s.interruptPending = false →
    (let first := s.thenRead [] s.pc
     let second := s.thenRead first (s.pc + 1)
     decode [s.peek s.pc, s.answer first (s.pc + 1), s.answer second (s.pc + 2)] = .ok (i, rest)) → step s = exec i s) ∧
  (∀ s : State, s.opCodeCycle = 0 → s.interruptPending = true → step s = .next s.takeInterrupt) ∧
  (∀ s : State, s.opCodeCycle ≠ 0 → step s = finish maxRemainingCycles s)

/-- The invariant of R39 and R52, with the storage's canonical form, is kept by every step. -/
def Obligations.EveryStepKeepsTheInvariant : Prop :=
  ∀ s t : State, s.Inv → step s = .next t → t.Inv

/-- The same invariant, cycle by cycle over all 258 entries (R131), and under what may happen between Ticks (R394, R85). -/
def Obligations.EveryTickKeepsTheInvariant : Prop :=
  (∀ s t : State, s.Inv → tick s = .next t → t.Inv) ∧ ∀ (s : State) (e : HostEvent), s.Inv → (s.event e).Inv

/-- R380: no instruction, operand, address or data value stops CORE. -/
def Obligations.NoStepStops : Prop :=
  (∀ s : State, s.inTable → SafeAnswer (step s)) ∧ ∀ (i : Instr) (s : State), SafeAnswer (exec i s)

/-- R381 and R52: the one fault, and when it is raised. -/
def Obligations.TickFaultsOnlyOutsideTheTable : Prop :=
  ∀ s : State,
  (tick s = .fault .cycleOutOfTable ↔ ¬ s.inTable) ∧ (s.inTable → ∃ t, tick s = .next t)

/-- The instruction-level step and the cycle-level Tick are one machine (R432, R170, R167). That a step is the run from
one boundary to the next is the model's choice (log 3). -/
def Obligations.AStepIsItsTicks : Prop :=
  (∀ s : State, s.opCodeCycle = 0 → s.interruptPending = false →
    step s = ticks (actualLength s.fetchInstr s) s) ∧
  (∀ s : State, s.opCodeCycle = 0 → s.interruptPending = true → step s = ticks 7 s)

/-- R76, and one call of the environment per access (R70, R77), over all entries, states and environments, as the
model's access history (log 4) shows it. -/
def Obligations.EveryTickMakesOneBusAccess : Prop :=
  ∀ s t : State, tick s = .next t →
  t.past = (if s.opCodeCycle = 0 then s.history else s.past) ∧
  ∃ e : BusAccess, t.bus = (if s.opCodeCycle = 0 then [] else s.bus) ++ [e] ∧
    ((∃ a, e = .read a (s.peek a) ∧ t.platform = s.platform) ∨
      (∃ a v, e = .write a v ∧ t.platform = s.platform.write a v))

/-- R136 (what a poll leaves, with the host silent), R169 and R170 (cycles), R57, for all 256 instructions. For BRK the
clauses on NMISignal and NMIEdgeDetector are the model's choice, R136 and not R395 (log 23). The cycle of the poll
is in the next statement. -/
def Obligations.EveryInstructionPollsAndTakesItsCycles : Prop :=
  ∀ (i : Instr) (s : State), ∃ t, exec i s = .next t ∧ Completes s t ∧ t.bus.length = actualLength i s

/-- R137 (PollIndex, with its rows for branches and indexed reads), R136 and R139, Tick by Tick: the line and the edge
stand as the host left them before that Tick. That BRK's poll latches an NMI edge so too is the model's choice, R136
and R137 and not R395 (log 23). That the dispatch of an NMI keeps an edge recorded after the latching poll is its
choice too (log 25). -/
def Obligations.EveryInstructionPollsInItsSecondToLastCycle : Prop :=
  (∀ (s u t : State) (j : Nat) (line edge : Bool), s.opCodeCycle = 0 → s.interruptPending = false →
    j < actualLength s.fetchInstr s → ticks j s = .next u →
    tick { u with irqLevelDetector := line, nmiEdgeDetector := edge } = .next t →
    t.irqLevelDetector = line ∧
      (if j = actualLength s.fetchInstr s - 2 then
        t.irqSignal = line ∧ t.nmiSignal = (u.nmiSignal || edge) ∧ t.nmiEdgeDetector = false
       else t.irqSignal = u.irqSignal ∧ t.nmiSignal = u.nmiSignal ∧ t.nmiEdgeDetector = edge)) ∧
  (∀ s t : State, tick s = .next t → t.opCode = .irqSequence ∨ t.opCode = .nmiSequence →
    t.irqLevelDetector = s.irqLevelDetector ∧ t.irqSignal = s.irqSignal ∧ t.nmiEdgeDetector = s.nmiEdgeDetector ∧
      t.nmiSignal = (if s.opCodeCycle = 0 then false else s.nmiSignal))

/-- R133, and with it the priority of R385, at the level of one Tick. -/
def Obligations.FirstCycleDispatchesOrFetches : Prop :=
  ∀ s : State, s.opCodeCycle = 0 →
  ∃ t, tick s = .next t ∧ ChangesOnly [] [] s t ∧ KeepsMemory s t ∧ KeepsScratch s t ∧
    t.past = s.history ∧ t.bus = [.read s.pc (s.peek s.pc)] ∧
    (if s.nmiSignal then
      t.opCode = .nmiSequence ∧ t.nmiSignal = false ∧ t.irqSignal = s.irqSignal ∧ t.pc = s.pc ∧ t.opCodeCycle = 1
    else if s.irqSignal && !s.flag .i then
      t.opCode = .irqSequence ∧ t.nmiSignal = false ∧ t.irqSignal = s.irqSignal ∧ t.pc = s.pc ∧ t.opCodeCycle = 1
    else t.opCode = .op (s.peek s.pc) ∧ t.pc = s.pc + 1)

/-- R387 (what entry saves and where it goes), R388 (the pushed PC), R390 (the pushed P), R139 (no poll), R385 (NMI
first). That NMIEdgeDetector keeps an edge recorded while NMISignal is pending is the model's choice (log 25). -/
def Obligations.InterruptEntrySavesPcAndPAndLoadsTheVector : Prop :=
  ∀ s : State, s.opCodeCycle = 0 → (s.nmiSignal || (s.irqSignal && !s.flag .i)) = true →
  let vector : Addr := if s.nmiSignal then 0xFFFA else 0xFFFE
  let image : Byte := (s.p &&& 0xCF) ||| 0x20
  let slot1 := wordOf 0x01 s.sp
  let slot2 := wordOf 0x01 (s.sp - 1)
  let slot3 := wordOf 0x01 (s.sp - 2)
  let pushes := [(slot1, hi8 s.pc), (slot2, lo8 s.pc), (slot3, image)]
  let l := s.thenReads [] [s.pc, s.pc] ++ [.write slot1 (hi8 s.pc), .write slot2 (lo8 s.pc), .write slot3 image]
  ∃ t, step s = .next t ∧ t.pc = wordOf (s.answer (s.thenRead l vector) (vector + 1)) (s.answer l vector) ∧
    t.sp = s.sp - 3 ∧ t.flag .i = true ∧ ChangesOnly [.s] [.i] s t ∧ KeepsScratch s t ∧ Writes pushes s t ∧
    t.bus = s.thenReads l [vector, vector + 1] ∧ Sees s t ∧
    t.opCodeCycle = 0 ∧ t.nmiSignal = false ∧ t.nmiEdgeDetector = s.nmiEdgeDetector ∧ t.irqSignal = s.irqSignal ∧
    t.irqLevelDetector = s.irqLevelDetector ∧ t.decimalEnabled = s.decimalEnabled ∧
    t.opCode = (if s.nmiSignal then .nmiSequence else .irqSequence)

/-- R388 and R392: the return restores what the entry saved. That bit 5 of P is 1 is part of the invariant of the
machine; that the stack lies in memory is a premise on the environment. -/
def Obligations.RtiUndoesInterruptEntry : Prop :=
  ∀ s : State, s.platform.isRam → s.opCodeCycle = 0 → s.interruptPending = true → s.flag .u = true →
  ∃ t u, step s = .next t ∧ exec .rti t = .next u ∧ u.pc = s.pc ∧ ChangesOnly [] [.b] s u

/-- R281 and R282 undo each other, where the stack lies in memory. -/
def Obligations.RtsReturnsPastItsJsr : Prop :=
  ∀ (s : State) (w : Addr), s.platform.isRam →
  ∃ t u, exec (.jsrAbs w) s = .next t ∧ exec .rts t = .next u ∧ u.pc = s.pc + 3 ∧ ChangesOnly [] [] s u

/-- R396: I is read at dispatch, not at the poll. -/
def Obligations.TheInterruptFlagIsReadAtDispatch : Prop :=
  ∀ s : State,
  ∀ r ∈ interruptFlagForms s,
    ∃ t, exec r.1 s = .next t ∧ t.flag .i = r.2 ∧
      t.interruptPending = (s.nmiSignal || s.nmiEdgeDetector || (s.irqLevelDetector && !r.2))

/-- R180 to R182, over every mode of their tables. -/
def Obligations.LoadsPutTheirOperandIntoTheRegister : Prop :=
  ∀ (s : State) (b : Byte) (w : Addr),
  (∀ f o, (f, o) ∈ ldaForms b w → let v := o.value s f.instr
    ∃ t, exec f.instr s = .next t ∧ f.Reads o s t ∧
      t.a = v ∧ SetsZN v t ∧ ChangesOnly [.a] [.z, .n] s t) ∧
  (∀ f o, (f, o) ∈ ldxForms b w → let v := o.value s f.instr
    ∃ t, exec f.instr s = .next t ∧ f.Reads o s t ∧
      t.x = v ∧ SetsZN v t ∧ ChangesOnly [.x] [.z, .n] s t) ∧
  (∀ f o, (f, o) ∈ ldyForms b w → let v := o.value s f.instr
    ∃ t, exec f.instr s = .next t ∧ f.Reads o s t ∧
      t.y = v ∧ SetsZN v t ∧ ChangesOnly [.y] [.z, .n] s t)

/-- R183 to R185 and R335, over every mode of their tables. -/
def Obligations.StoresWriteTheirByteAtTheEffectiveAddress : Prop :=
  ∀ (s : State) (b : Byte) (w : Addr),
  (∀ f m, (f, m) ∈ staForms b w → ∃ t, exec f.instr s = .next t ∧ f.Runs s t ∧
    StoresByte (m.ea s f.instr) s.a s t ∧ ChangesOnly [] [] s t) ∧
  (∀ f m, (f, m) ∈ stxForms b w → ∃ t, exec f.instr s = .next t ∧ f.Runs s t ∧
    StoresByte (m.ea s f.instr) s.x s t ∧ ChangesOnly [] [] s t) ∧
  (∀ f m, (f, m) ∈ styForms b w → ∃ t, exec f.instr s = .next t ∧ f.Runs s t ∧
    StoresByte (m.ea s f.instr) s.y s t ∧ ChangesOnly [] [] s t) ∧
  (∀ f m, (f, m) ∈ saxForms b w → ∃ t, exec f.instr s = .next t ∧ f.Runs s t ∧
    StoresByte (m.ea s f.instr) (s.a &&& s.x) s t ∧ ChangesOnly [] [] s t)

/-- R186 to R191. -/
def Obligations.TransfersCopyARegister : Prop :=
  ∀ s : State,
  (∀ r ∈ transferForms s,
    ∃ t, exec r.1.instr s = .next t ∧ r.1.Runs s t ∧ r.2.2.value t = r.2.1 ∧ SetsZN r.2.1 t ∧
      ChangesOnly [r.2.2] [.z, .n] s t ∧ KeepsMemory s t ∧ KeepsScratch s t) ∧
  ∃ t, exec .txs s = .next t ∧ (⟨.txs, 0x9A, 1, 2⟩ : Form).Runs s t ∧ t.sp = s.x ∧
    ChangesOnly [.s] [] s t ∧ KeepsMemory s t ∧ KeepsScratch s t

/-- R200 with the binary rule R201, over every mode. -/
def Obligations.AdcAddsInBinary : Prop :=
  ∀ (s : State) (b : Byte) (w : Addr), (s.decimalEnabled && s.flag .d) = false →
  ∀ f o, (f, o) ∈ adcForms b w → let v := o.value s f.instr
    ∃ t, exec f.instr s = .next t ∧ f.Reads o s t ∧ AddsBinary s.a v (s.flag .c) t ∧ ChangesOnly [.a] [.n, .v, .z, .c] s t

/-- R200 with the decimal rule R202, over every mode. -/
def Obligations.AdcAddsInDecimal : Prop :=
  ∀ (s : State) (b : Byte) (w : Addr), (s.decimalEnabled && s.flag .d) = true →
  ∀ f o, (f, o) ∈ adcForms b w → let v := o.value s f.instr
    ∃ t, exec f.instr s = .next t ∧ f.Reads o s t ∧ AddsDecimal s.a v (s.flag .c) t ∧ ChangesOnly [.a] [.n, .v, .z, .c] s t

/-- R203 and R345 with the binary rule R204, over every mode. -/
def Obligations.SbcSubtractsInBinary : Prop :=
  ∀ (s : State) (b : Byte) (w : Addr), (s.decimalEnabled && s.flag .d) = false →
  ∀ f o, (f, o) ∈ sbcForms b w → let v := o.value s f.instr
    ∃ t, exec f.instr s = .next t ∧ f.Reads o s t ∧ SubtractsBinary s.a v (s.flag .c) t ∧ ChangesOnly [.a] [.n, .v, .z, .c] s t

/-- R203 and R345 with the decimal rule R205, over every mode. -/
def Obligations.SbcSubtractsInDecimal : Prop :=
  ∀ (s : State) (b : Byte) (w : Addr), (s.decimalEnabled && s.flag .d) = true →
  ∀ f o, (f, o) ∈ sbcForms b w → let v := o.value s f.instr
    ∃ t, exec f.instr s = .next t ∧ f.Reads o s t ∧ SubtractsDecimal s.a v (s.flag .c) t ∧ ChangesOnly [.a] [.n, .v, .z, .c] s t

/-- R206 to R208, over every mode of their tables. -/
def Obligations.LogicCombinesAWithTheOperand : Prop :=
  ∀ (s : State) (b : Byte) (w : Addr),
  (∀ f o, (f, o) ∈ andForms b w → let v := o.value s f.instr
    ∃ t, exec f.instr s = .next t ∧ f.Reads o s t ∧
      t.a = s.a &&& v ∧ SetsZN (s.a &&& v) t ∧ ChangesOnly [.a] [.z, .n] s t) ∧
  (∀ f o, (f, o) ∈ oraForms b w → let v := o.value s f.instr
    ∃ t, exec f.instr s = .next t ∧ f.Reads o s t ∧
      t.a = s.a ||| v ∧ SetsZN (s.a ||| v) t ∧ ChangesOnly [.a] [.z, .n] s t) ∧
  (∀ f o, (f, o) ∈ eorForms b w → let v := o.value s f.instr
    ∃ t, exec f.instr s = .next t ∧ f.Reads o s t ∧
      t.a = s.a ^^^ v ∧ SetsZN (s.a ^^^ v) t ∧ ChangesOnly [.a] [.z, .n] s t)

/-- R209, over both modes. -/
def Obligations.BitTestsTheOperand : Prop :=
  ∀ (s : State) (b : Byte) (w : Addr), ∀ f o, (f, o) ∈ bitForms b w →
  let v := o.value s f.instr
  ∃ t, exec f.instr s = .next t ∧ f.Reads o s t ∧ t.flag .z = (s.a &&& v == 0) ∧ t.flag .n = v.getLsbD 7 ∧
    t.flag .v = v.getLsbD 6 ∧ ChangesOnly [] [.z, .n, .v] s t

/-- R210 to R213, over every mode of their tables. -/
def Obligations.ComparesSetCarryZeroNegative : Prop :=
  ∀ (s : State) (b : Byte) (w : Addr),
  (∀ f o, (f, o) ∈ cmpForms b w → let v := o.value s f.instr
    ∃ t, exec f.instr s = .next t ∧ f.Reads o s t ∧
      Compares s.a v t ∧ ChangesOnly [] [.c, .z, .n] s t) ∧
  (∀ f o, (f, o) ∈ cpxForms b w → let v := o.value s f.instr
    ∃ t, exec f.instr s = .next t ∧ f.Reads o s t ∧
      Compares s.x v t ∧ ChangesOnly [] [.c, .z, .n] s t) ∧
  (∀ f o, (f, o) ∈ cpyForms b w → let v := o.value s f.instr
    ∃ t, exec f.instr s = .next t ∧ f.Reads o s t ∧
      Compares s.y v t ∧ ChangesOnly [] [.c, .z, .n] s t)

/-- R241, R243, R245, R247 with the primitives of R240. -/
def Obligations.AccumulatorShiftsReplaceA : Prop :=
  ∀ s : State,
  ∀ r ∈ accumulatorForms,
    ∃ t, exec r.1.instr s = .next t ∧ r.1.Runs s t ∧ t.a = r.2.result s.a (s.flag .c) ∧
      t.flag .c = r.2.carry s.a ∧ SetsZN (r.2.result s.a (s.flag .c)) t ∧ ChangesOnly [.a] [.c, .z, .n] s t ∧
      KeepsMemory s t ∧ KeepsScratch s t

/-- R242, R244, R246, R248 with the primitives of R240. -/
def Obligations.MemoryShiftsReplaceTheByte : Prop :=
  ∀ (k : Shift) (s : State) (b : Byte) (w : Addr), ∀ f m, (f, m) ∈ shiftForms k b w →
  let v := m.modified s f.instr
  ∃ t, exec f.instr s = .next t ∧ f.Runs s t ∧ ModifiesByte m f.instr (k.result v (s.flag .c)) s t ∧
    t.flag .c = k.carry v ∧ SetsZN (k.result v (s.flag .c)) t ∧
    ChangesOnly [] [.c, .z, .n] s t

/-- R249 and R250, over every mode of their tables. -/
def Obligations.IncAndDecCountAByteInMemory : Prop :=
  ∀ (s : State) (b : Byte) (w : Addr),
  (∀ f m, (f, m) ∈ incForms b w → let v := m.modified s f.instr
    ∃ t, exec f.instr s = .next t ∧ f.Runs s t ∧
    ModifiesByte m f.instr (v + 1) s t ∧ SetsZN (v + 1) t ∧ ChangesOnly [] [.z, .n] s t) ∧
  (∀ f m, (f, m) ∈ decForms b w → let v := m.modified s f.instr
    ∃ t, exec f.instr s = .next t ∧ f.Runs s t ∧
    ModifiesByte m f.instr (v - 1) s t ∧ SetsZN (v - 1) t ∧ ChangesOnly [] [.z, .n] s t)

/-- R251 to R254. -/
def Obligations.RegisterCountsWrap : Prop :=
  ∀ s : State,
  ∀ r ∈ countForms s,
    ∃ t, exec r.1.instr s = .next t ∧ r.1.Runs s t ∧ r.2.1.value t = r.2.2 ∧ SetsZN r.2.2 t ∧
      ChangesOnly [r.2.1] [.z, .n] s t ∧ KeepsMemory s t ∧ KeepsScratch s t

/-- R270 to R278, with the accesses of R157. -/
def Obligations.BranchesGoToTheirTargetWhenTaken : Prop :=
  ∀ (s : State) (b : Byte), ∀ f on v, (f, on, v) ∈ branchForms b s →
  let next := s.pc + 2
  let target := next + b.signExtend 16
  let cycles := if s.flag on = v then (if hi8 target = hi8 next then 3 else 4) else 2
  ∃ t, exec f.instr s = .next t ∧ f.Fits t ∧ Completes s t ∧ t.bus.length = cycles ∧
    t.pc = (if s.flag on = v then target else next) ∧ ChangesOnly [] [] s t ∧ KeepsMemory s t ∧
    t.al = s.al ∧ t.ah = s.ah ∧ t.operand = b ∧
    t.bus = s.thenReads (fetch2 s f.instr b)
      (if s.flag on = v then
        (if hi8 target = hi8 next then [next] else [next, wordOf (hi8 next) (lo8 next + b)])
      else [])

/-- R279, R280, with the accesses of R159 and R160. -/
def Obligations.JmpLoadsPc : Prop :=
  ∀ (s : State) (w : Addr),
  (∃ t, exec (.jmpAbs w) s = .next t ∧ (⟨.jmpAbs w, 0x4C, 3, 3⟩ : Form).Fits t ∧ Completes s t ∧ t.pc = w ∧
    ChangesOnly [] [] s t ∧ KeepsMemory s t ∧ t.al = lo8 w ∧ t.ah = s.ah ∧ t.operand = s.operand ∧
    t.bus = fetch3 s (.jmpAbs w) w) ∧
  (let high := wordOf (hi8 w) (lo8 w + 1)
   let l := fetch3 s (.jmpInd w) w
   ∃ t, exec (.jmpInd w) s = .next t ∧ (⟨.jmpInd w, 0x6C, 3, 5⟩ : Form).Fits t ∧ Completes s t ∧
    t.pc = wordOf (s.answer (s.thenRead l w) high) (s.answer l w) ∧ ChangesOnly [] [] s t ∧ KeepsMemory s t ∧
    t.al = lo8 w ∧ t.ah = hi8 w ∧ t.operand = s.answer l w ∧ t.bus = s.thenReads l [w, high])

/-- R281 and R161. The second clause is the ordinary case, the third the overwritten one. -/
def Obligations.JsrPushesItsLastAddressAndJumps : Prop :=
  ∀ (s : State) (w : Addr),
  let ret := s.pc + 2
  let slot1 := wordOf 0x01 s.sp
  let slot2 := wordOf 0x01 (s.sp - 1)
  let l := s.thenRead (fetch2 s (.jsrAbs w) (lo8 w)) slot1 ++ [.write slot1 (hi8 ret), .write slot2 (lo8 ret)]
  ∃ t, exec (.jsrAbs w) s = .next t ∧ (⟨.jsrAbs w, 0x20, 3, 6⟩ : Form).Fits t ∧ Completes s t ∧
    t.pc = wordOf (s.answer l ret) (lo8 w) ∧
    (s.platform.isRam → s.peek ret = hi8 w → ret ≠ slot1 → ret ≠ slot2 → t.pc = w) ∧
    (s.platform.isRam → ret = slot1 → t.pc = wordOf (hi8 ret) (lo8 w)) ∧
    t.sp = s.sp - 2 ∧ ChangesOnly [.s] [] s t ∧ Writes [(slot1, hi8 ret), (slot2, lo8 ret)] s t ∧
    t.al = lo8 w ∧ t.ah = s.ah ∧ t.operand = s.operand ∧ t.bus = s.thenRead l ret

/-- R282 and R162. -/
def Obligations.RtsPullsPcAndStepsPastIt : Prop :=
  ∀ s : State,
  let slot1 := wordOf 0x01 (s.sp + 1)
  let slot2 := wordOf 0x01 (s.sp + 2)
  let l := s.thenRead (fetchImplied s .rts) (wordOf 0x01 s.sp)
  let pulled := wordOf (s.answer (s.thenRead l slot1) slot2) (s.answer l slot1)
  ∃ t, exec .rts s = .next t ∧ (⟨.rts, 0x60, 1, 6⟩ : Form).Fits t ∧ Completes s t ∧ t.pc = pulled + 1 ∧
    t.sp = s.sp + 2 ∧ ChangesOnly [.s] [] s t ∧ KeepsMemory s t ∧ KeepsScratch s t ∧
    t.bus = s.thenReads l [slot1, slot2, pulled]

/-- R283 and R163, the return of R392. -/
def Obligations.RtiPullsStatusAndPc : Prop :=
  ∀ s : State,
  let slot1 := wordOf 0x01 (s.sp + 1)
  let slot2 := wordOf 0x01 (s.sp + 2)
  let slot3 := wordOf 0x01 (s.sp + 3)
  let l := s.thenRead (fetchImplied s .rti) (wordOf 0x01 s.sp)
  let low := s.thenRead l slot1
  let high := s.thenRead low slot2
  ∃ t, exec .rti s = .next t ∧ (⟨.rti, 0x40, 1, 6⟩ : Form).Fits t ∧ Completes s t ∧
    t.p = s.answer l slot1 ||| 0x20 ∧ t.pc = wordOf (s.answer high slot3) (s.answer low slot2) ∧ t.sp = s.sp + 3 ∧
    t.a = s.a ∧ t.x = s.x ∧ t.y = s.y ∧ KeepsMemory s t ∧ KeepsScratch s t ∧ t.bus = s.thenRead high slot3

/-- R284 and R164: BRK's own effect is the entry of the handler; I does not mask it. The poll clause is the model's
choice: an NMI edge is latched as R136 has it, and not kept as R395 has it (log 23). -/
def Obligations.BrkPushesPcAndPAndLoadsTheIrqVector : Prop :=
  ∀ s : State,
  let ret := s.pc + 2
  let image : Byte := (s.p &&& 0xCF) ||| 0x30
  let slot1 := wordOf 0x01 s.sp
  let slot2 := wordOf 0x01 (s.sp - 1)
  let slot3 := wordOf 0x01 (s.sp - 2)
  let l := fetchImplied s .brk ++ [.write slot1 (hi8 ret), .write slot2 (lo8 ret), .write slot3 image]
  ∃ t, exec .brk s = .next t ∧ (⟨.brk, 0x00, 1, 7⟩ : Form).Fits t ∧ Completes s t ∧
    t.pc = wordOf (s.answer (s.thenRead l 0xFFFE) 0xFFFF) (s.answer l 0xFFFE) ∧ t.sp = s.sp - 3 ∧
    t.flag .i = true ∧ ChangesOnly [.s] [.i] s t ∧ KeepsScratch s t ∧
    Writes [(slot1, hi8 ret), (slot2, lo8 ret), (slot3, image)] s t ∧ t.bus = s.thenReads l [0xFFFE, 0xFFFF]

/-- R300, R301 and R165. -/
def Obligations.PhaAndPhpPushOneByte : Prop :=
  ∀ s : State,
  ∀ r ∈ pushForms s,
    ∃ t, exec r.1.instr s = .next t ∧ r.1.Runs s t ∧ StoresByte (wordOf 0x01 s.sp) r.2 s t ∧ t.sp = s.sp - 1 ∧
      ChangesOnly [.s] [] s t ∧ KeepsScratch s t ∧
      t.bus = fetchImplied s r.1.instr ++ [.write (wordOf 0x01 s.sp) r.2]

/-- R302, R303 and R166. -/
def Obligations.PlaAndPlpPullOneByte : Prop :=
  ∀ s : State,
  let slot := wordOf 0x01 (s.sp + 1)
  let l (i : Instr) := s.thenRead (fetchImplied s i) (wordOf 0x01 s.sp)
  (let v := s.answer (l .pla) slot
   ∃ t, exec .pla s = .next t ∧ (⟨.pla, 0x68, 1, 4⟩ : Form).Runs s t ∧ t.a = v ∧ SetsZN v t ∧ t.sp = s.sp + 1 ∧
    ChangesOnly [.a, .s] [.z, .n] s t ∧ KeepsMemory s t ∧ KeepsScratch s t ∧ t.bus = s.thenRead (l .pla) slot) ∧
  (let v := s.answer (l .plp) slot
   ∃ t, exec .plp s = .next t ∧ (⟨.plp, 0x28, 1, 4⟩ : Form).Runs s t ∧ t.p = v ||| 0x20 ∧ t.sp = s.sp + 1 ∧
    t.a = s.a ∧ t.x = s.x ∧ t.y = s.y ∧ KeepsMemory s t ∧ KeepsScratch s t ∧ t.bus = s.thenRead (l .plp) slot)

/-- R304 to R310. -/
def Obligations.FlagInstructionsWriteOneFlag : Prop :=
  ∀ s : State,
  ∀ r ∈ flagForms,
    ∃ t, exec r.1.instr s = .next t ∧ r.1.Runs s t ∧ t.flag r.2.1 = r.2.2 ∧ ChangesOnly [] [r.2.1] s t ∧
      KeepsMemory s t ∧ KeepsScratch s t

/-- R311, R351 to R353; the reads they make are in the statements on bus traces. -/
def Obligations.NopsOnlyAdvancePc : Prop :=
  ∀ (s : State) (b : Byte) (w : Addr),
  (∀ f ∈ nopForms, ∃ t, exec f.instr s = .next t ∧ f.Runs s t ∧ ChangesOnly [] [] s t ∧ KeepsMemory s t ∧
    KeepsScratch s t) ∧
  (∀ f o, (f, o) ∈ nopReadForms b w → ∃ t, exec f.instr s = .next t ∧ f.Reads o s t ∧ ChangesOnly [] [] s t)

/-- R354 and R168 (STP_MODE = NOP1). -/
def Obligations.JamIsAOneCycleNop : Prop :=
  ∀ s : State, ∀ f ∈ jamForms,
  ∃ t, exec f.instr s = .next t ∧ f.Runs s t ∧ ChangesOnly [] [] s t ∧ KeepsMemory s t ∧ KeepsScratch s t ∧
    t.bus = fetch1 s f.instr

/-- R331 to R333, over every mode of their columns. -/
def Obligations.SloRlaSreCombineAWithTheShiftedByte : Prop :=
  ∀ (s : State) (b : Byte) (w : Addr),
  (∀ f m, (f, m) ∈ sloForms b w → let v := m.modified s f.instr
    let r := Shift.asl.result v (s.flag .c)
    ∃ t, exec f.instr s = .next t ∧ f.Runs s t ∧ ModifiesByte m f.instr r s t ∧ t.a = s.a ||| r ∧
      t.flag .c = Shift.asl.carry v ∧ SetsZN (s.a ||| r) t ∧ ChangesOnly [.a] [.c, .z, .n] s t) ∧
  (∀ f m, (f, m) ∈ rlaForms b w → let v := m.modified s f.instr
    let r := Shift.rol.result v (s.flag .c)
    ∃ t, exec f.instr s = .next t ∧ f.Runs s t ∧ ModifiesByte m f.instr r s t ∧ t.a = s.a &&& r ∧
      t.flag .c = Shift.rol.carry v ∧ SetsZN (s.a &&& r) t ∧ ChangesOnly [.a] [.c, .z, .n] s t) ∧
  (∀ f m, (f, m) ∈ sreForms b w → let v := m.modified s f.instr
    let r := Shift.lsr.result v (s.flag .c)
    ∃ t, exec f.instr s = .next t ∧ f.Runs s t ∧ ModifiesByte m f.instr r s t ∧ t.a = s.a ^^^ r ∧
      t.flag .c = Shift.lsr.carry v ∧ SetsZN (s.a ^^^ r) t ∧ ChangesOnly [.a] [.c, .z, .n] s t)

/-- R334, over every mode of its column. -/
def Obligations.RraRotatesThenAdds : Prop :=
  ∀ (s : State) (b : Byte) (w : Addr), ∀ f m, (f, m) ∈ rraForms b w →
  let v := m.modified s f.instr
  let r := Shift.ror.result v (s.flag .c)
  let c := Shift.ror.carry v
  ∃ t, exec f.instr s = .next t ∧ f.Runs s t ∧ ModifiesByte m f.instr r s t ∧
    (if s.decimalEnabled && s.flag .d then AddsDecimal s.a r c t else AddsBinary s.a r c t) ∧
    ChangesOnly [.a] [.n, .v, .z, .c] s t

/-- R338, over every mode of its column. -/
def Obligations.IscIncrementsThenSubtracts : Prop :=
  ∀ (s : State) (b : Byte) (w : Addr), ∀ f m, (f, m) ∈ iscForms b w →
  let v := m.modified s f.instr
  let r := v + 1
  ∃ t, exec f.instr s = .next t ∧ f.Runs s t ∧ ModifiesByte m f.instr r s t ∧
    (if s.decimalEnabled && s.flag .d then SubtractsDecimal s.a r (s.flag .c) t
     else SubtractsBinary s.a r (s.flag .c) t) ∧
    ChangesOnly [.a] [.n, .v, .z, .c] s t

/-- R337, over every mode of its column. -/
def Obligations.DcpDecrementsThenCompares : Prop :=
  ∀ (s : State) (b : Byte) (w : Addr), ∀ f m, (f, m) ∈ dcpForms b w →
  let v := m.modified s f.instr
  ∃ t, exec f.instr s = .next t ∧ f.Runs s t ∧ ModifiesByte m f.instr (v - 1) s t ∧
    Compares s.a (v - 1) t ∧ ChangesOnly [] [.c, .z, .n] s t

/-- R336 and R350, over every mode of their tables. -/
def Obligations.LaxAndLasLoadSeveralRegisters : Prop :=
  ∀ (s : State) (b : Byte) (w : Addr),
  (∀ f o, (f, o) ∈ laxForms b w → let v := o.value s f.instr
    ∃ t, exec f.instr s = .next t ∧ f.Reads o s t ∧
      t.a = v ∧ t.x = v ∧ SetsZN v t ∧ ChangesOnly [.a, .x] [.z, .n] s t) ∧
  (∀ f o, (f, o) ∈ lasForms b w → let v := o.value s f.instr
    ∃ t, exec f.instr s = .next t ∧ f.Reads o s t ∧
      t.a = v &&& s.sp ∧ t.x = v &&& s.sp ∧ t.sp = v &&& s.sp ∧ SetsZN (v &&& s.sp) t ∧
    ChangesOnly [.a, .x, .s] [.z, .n] s t)

/-- R339, R340, R344. -/
def Obligations.AncAlrSbxCombineImmediates : Prop :=
  ∀ (s : State) (b : Byte),
  (∀ f ∈ ancForms b,
    ∃ t, exec f.instr s = .next t ∧ f.Runs s t ∧ t.a = s.a &&& b ∧ SetsZN (s.a &&& b) t ∧
      t.flag .c = (s.a &&& b).getLsbD 7 ∧ ChangesOnly [.a] [.z, .n, .c] s t ∧ KeepsMemory s t ∧ KeepsScratch s t) ∧
  (∃ t, exec (.alrImm b) s = .next t ∧ (⟨.alrImm b, 0x4B, 2, 2⟩ : Form).Runs s t ∧ t.a = (s.a &&& b) >>> 1 ∧
    SetsZN ((s.a &&& b) >>> 1) t ∧ t.flag .c = (s.a &&& b).getLsbD 0 ∧ ChangesOnly [.a] [.z, .n, .c] s t ∧
    KeepsMemory s t ∧ KeepsScratch s t) ∧
  (∃ t, exec (.sbxImm b) s = .next t ∧ (⟨.sbxImm b, 0xCB, 2, 2⟩ : Form).Runs s t ∧ t.x = (s.a &&& s.x) - b ∧
    Compares (s.a &&& s.x) b t ∧ ChangesOnly [.x] [.z, .n, .c] s t ∧ KeepsMemory s t ∧ KeepsScratch s t)

/-- R341, both rules. -/
def Obligations.ArrRotatesWithItsOwnFlags : Prop :=
  ∀ (s : State) (b : Byte),
  let t := s.a &&& b
  let c := s.flag .c
  let r : Byte := (t >>> 1) ||| (if c then 0x80 else 0x00)
  let r' : Byte := if (t &&& 0x0F).toNat + (t &&& 0x01).toNat > 5 then (r &&& 0xF0) ||| ((r + 0x06) &&& 0x0F) else r
  let high : Bool := decide ((t &&& 0xF0).toNat + (t &&& 0x10).toNat > 0x50)
  ∃ u, exec (.arrImm b) s = .next u ∧ (⟨.arrImm b, 0x6B, 2, 2⟩ : Form).Runs s u ∧
    (if s.decimalEnabled && s.flag .d then
      u.a = (if high then (r' &&& 0x0F) ||| ((r' + 0x60) &&& 0xF0) else r') ∧ u.flag .c = high ∧ u.flag .n = c ∧
        u.flag .z = (r == 0) ∧ u.flag .v = (r ^^^ t).getLsbD 6
     else u.a = r ∧ SetsZN r u ∧ u.flag .c = r.getLsbD 6 ∧ u.flag .v = (r.getLsbD 6 ^^ r.getLsbD 5)) ∧
    ChangesOnly [.a] [.n, .v, .z, .c] s u ∧ KeepsMemory s u ∧ KeepsScratch s u

/-- R342 and R343. ANE_MAGIC and LXA_MAGIC are constants without a body (log 6): the statement holds for every value of
them. -/
def Obligations.AneAndLxaUseTheirMagicConstants : Prop :=
  ∀ (s : State) (b : Byte),
  (let r := (s.a ||| Config.aneMagic) &&& s.x &&& b
   ∃ t, exec (.aneImm b) s = .next t ∧ (⟨.aneImm b, 0x8B, 2, 2⟩ : Form).Runs s t ∧ t.a = r ∧ SetsZN r t ∧
    ChangesOnly [.a] [.z, .n] s t ∧ KeepsMemory s t ∧ KeepsScratch s t) ∧
  (let r := (s.a ||| Config.lxaMagic) &&& b
   ∃ t, exec (.lxaImm b) s = .next t ∧ (⟨.lxaImm b, 0xAB, 2, 2⟩ : Form).Runs s t ∧ t.a = r ∧ t.x = r ∧ SetsZN r t ∧
    ChangesOnly [.a, .x] [.z, .n] s t ∧ KeepsMemory s t ∧ KeepsScratch s t)

/-- R346 to R349 with the common rule R355, and their accesses (R149, R154). -/
def Obligations.ShStoresAndTasAndTheHighByte : Prop :=
  ∀ (s : State) (b : Byte) (w : Addr),
  let value (base : Addr) (source : Byte) := source &&& (hi8 base + 1)
  let place (base : Addr) (i v : Byte) := if carries base i then wordOf v (lo8 base + i) else base + i.setWidth 16
  (∀ f m source, (f, m, source) ∈ shForms b w s → ∀ base i, m.indexed s f.instr = some (base, i) →
    let v := value base source
    ∃ t, exec f.instr s = .next t ∧ f.Runs s t ∧ StoresByte (place base i v) v s t ∧ ChangesOnly [] [] s t ∧
      t.bus = s.thenRead (m.fetches s f.instr) (unfixed base i) ++ [.write (place base i v) v]) ∧
  (let v := value w (s.a &&& s.x)
   ∃ t, exec (.tasAbsy w) s = .next t ∧ (⟨.tasAbsy w, 0x9B, 3, 5⟩ : Form).Runs s t ∧ t.sp = s.a &&& s.x ∧
    StoresByte (place w s.y v) v s t ∧ ChangesOnly [.s] [] s t ∧
    t.bus = s.thenRead (fetch3 s (.tasAbsy w) w) (unfixed w s.y) ++ [.write (place w s.y v) v])

/-- The accesses of R142 to R144, for every instruction of these modes; PC and their operations are in the statements on
results. -/
def Obligations.ImpliedAndImmediateTraces : Prop :=
  ∀ (s : State) (b : Byte),
  (∀ i ∈ impliedInstrs, ∃ t, exec i s = .next t ∧ t.bus = s.thenReads (fetch1 s i) [s.pc + 1]) ∧
  (∀ i ∈ immediateInstrs, ∃ t, exec (i b) s = .next t ∧ t.bus = fetch2 s (i b) b)

/-- R145, R146, R147, R152 with the RMW tail of R156, for every instruction of these modes. -/
def Obligations.UnindexedAndPreindexedTraces : Prop :=
  ∀ (s : State) (b : Byte) (w : Addr),
  let reads (i : Instr) (l : List BusAccess) (ea : Addr) := ∃ t, exec i s = .next t ∧ t.bus = s.thenRead l ea
  let writes (i : Instr) (l : List BusAccess) (ea : Addr) := ∃ t v, exec i s = .next t ∧ t.bus = l ++ [.write ea v]
  let modifies (i : Instr) (l : List BusAccess) (ea : Addr) := ∃ t v, exec i s = .next t ∧
    t.bus = s.thenRead l ea ++ [.write ea (s.answer l ea), .write ea v]
  (∀ i ∈ zpReads, reads (i b) (fetch2 s (i b) b) (eaZp b)) ∧
  (∀ i ∈ zpWrites, writes (i b) (fetch2 s (i b) b) (eaZp b)) ∧
  (∀ i ∈ zpRmws, modifies (i b) (fetch2 s (i b) b) (eaZp b)) ∧
  (let l (i : Instr) := s.thenRead (fetch2 s i b) (eaZp b)
   (∀ j i, (j, i) ∈ zpIndexedReads → reads (i b) (l (i b)) (eaZpIndexed j b s)) ∧
   (∀ j i, (j, i) ∈ zpIndexedWrites → writes (i b) (l (i b)) (eaZpIndexed j b s)) ∧
   (∀ j i, (j, i) ∈ zpIndexedRmws → modifies (i b) (l (i b)) (eaZpIndexed j b s))) ∧
  (∀ i ∈ absReads, reads (i w) (fetch3 s (i w) w) w) ∧
  (∀ i ∈ absWrites, writes (i w) (fetch3 s (i w) w) w) ∧
  (∀ i ∈ absRmws, modifies (i w) (fetch3 s (i w) w) w) ∧
  (let l (i : Instr) := s.thenReads (fetch2 s i b) [eaZp b, eaZp (b + s.x), eaZp (b + s.x + 1)]
   let ea (i : Instr) := (Mode.izx b).ea s i
   (∀ i ∈ izxReads, reads (i b) (l (i b)) (ea (i b))) ∧
   (∀ i ∈ izxWrites, writes (i b) (l (i b)) (ea (i b))) ∧
   (∀ i ∈ izxRmws, modifies (i b) (l (i b)) (ea (i b))))

/-- R148 to R151 and R153 to R155 with the RMW tail of R156, for every instruction of these modes; the writes of SHA,
SHX, SHY and TAS go where R355 says. -/
def Obligations.IndexedTracesReadAtTheUnfixedAddress : Prop :=
  ∀ (s : State) (b : Byte) (w : Addr),
  let reads (i : Instr) (l : List BusAccess) (base : Addr) (j : Byte) := ∃ t, exec i s = .next t ∧
    t.bus = s.thenReads l
      (if carries base j then [unfixed base j, base + j.setWidth 16] else [base + j.setWidth 16])
  let writes (i : Instr) (l : List BusAccess) (base : Addr) (j : Byte) := ∃ t v, exec i s = .next t ∧
    t.bus = s.thenRead l (unfixed base j) ++ [.write (base + j.setWidth 16) v]
  let modifies (i : Instr) (l : List BusAccess) (base : Addr) (j : Byte) := ∃ t v, exec i s = .next t ∧
    let l' := s.thenRead l (unfixed base j)
    t.bus = s.thenRead l' (base + j.setWidth 16) ++
      [.write (base + j.setWidth 16) (s.answer l' (base + j.setWidth 16)), .write (base + j.setWidth 16) v]
  let storesHigh (i : Instr) (l : List BusAccess) (base : Addr) (j : Byte) := ∃ t v, exec i s = .next t ∧
    t.bus = s.thenRead l (unfixed base j) ++
      [.write (if carries base j then wordOf v (lo8 base + j) else base + j.setWidth 16) v]
  (∀ j i, (j, i) ∈ absIndexedReads → reads (i w) (fetch3 s (i w) w) w (j.value s)) ∧
  (∀ j i, (j, i) ∈ absIndexedWrites → writes (i w) (fetch3 s (i w) w) w (j.value s)) ∧
  (∀ j i, (j, i) ∈ absIndexedRmws → modifies (i w) (fetch3 s (i w) w) w (j.value s)) ∧
  (∀ j i, (j, i) ∈ absIndexedHighStores → storesHigh (i w) (fetch3 s (i w) w) w (j.value s)) ∧
  (let l (i : Instr) := s.thenReads (fetch2 s i b) [eaZp b, eaZp (b + 1)]
   let base (i : Instr) := s.pointer (fetch2 s i b) b
   (∀ i ∈ izyReads, reads (i b) (l (i b)) (base (i b)) s.y) ∧
   (∀ i ∈ izyWrites, writes (i b) (l (i b)) (base (i b)) s.y) ∧
   (∀ i ∈ izyRmws, modifies (i b) (l (i b)) (base (i b)) s.y) ∧
   storesHigh (.shaIzy b) (l (.shaIzy b)) (base (.shaIzy b)) s.y)

/-- The two identities that R201 and R204 state of their formulas. -/
def Obligations.SignedOverflowAndComplement : Prop :=
  ∀ (a v : Byte) (c : Bool),
  (addBinary a v c).v = decide (a.toInt + v.toInt + (c.toNat : Int) < -128 ∨ 127 < a.toInt + v.toInt + (c.toNat : Int)) ∧
  subBinary a v c = addBinary a (~~~v) c

/-- R88 to R93 over every environment, and the oracle of R70 (logs 1 and 19). -/
def Obligations.TheBusAndsItsComponentsAndWritesReachThemAll : Prop :=
  (∀ (p : Platform) (h : List BusAccess) (a : Addr) (v : Byte), (∀ c ∈ p, c.covers a = false) →
    p.read h a = 0xFF ∧ p.write a v = p) ∧
  (∀ (p q : Platform) (h : List BusAccess) (a : Addr) (v : Byte),
    Platform.read (p ++ q) h a = p.read h a &&& q.read h a ∧
      Platform.write (p ++ q) a v = p.write a v ++ q.write a v) ∧
  (∀ (r : Region) (h h' : List BusAccess) (a q : Addr) (v : Byte), Component.covers (.region r) a = true →
    (∀ m, r.mirrorSize = some m → r.index a = (a.toNat - r.base) % m) ∧
    (r.mirrorSize = none → r.index a = a.toNat - r.base) ∧
    Platform.read [.region r] h a = r.store.read (r.index a) ∧
    (r.readOnly = true → Platform.write [.region r] a v = [.region r]) ∧
    (r.readOnly = false → Component.covers (.region r) q = true →
      Platform.read (Platform.write [.region r] a v) h' q =
        (if r.index q = r.index a then v else Platform.read [.region r] h q))) ∧
  (∀ (d : Device) (h : List BusAccess) (a : Addr) (v : Byte), Component.covers (.device d) a = true →
    Platform.read [.device d] h a = Config.deviceOutput d.number h a ∧
      Platform.write [.device d] a v = [.device d])
end

