-- ==== Sys2Proof/Laws/Memory.lean ====
section
/-! SUPPORT. Storage and the environment: a read after a write, the canonical form that every write keeps, and which environments answer without regard to the history. -/

namespace Sys2Proof.Machine

theorem Memory.read_erase (m : Memory) (a b : Nat) :
    (m.erase a).read b = if a = b then Memory.unlisted else m.read b := by
  induction m with
  | nil => simp [Memory.erase, Memory.read]
  | cons c m ih =>
    simp only [Memory.erase, List.filter_cons] at ih ⊢
    by_cases h : c.1 = a
    · subst h
      simp only [bne_self_eq_false, Bool.false_eq_true, if_false, ih, Memory.read]
      split <;> rfl
    · by_cases hb : c.1 = b
      · subst hb; simp [h, Memory.read, Ne.symm h]
      · simp [h, Memory.read, hb, ih]

theorem Memory.not_mem_erase (m : Memory) (a : Nat) : ∀ c ∈ m.erase a, c.1 ≠ a := by
  intro c hc
  simpa using (List.mem_filter.1 hc).2

theorem Memory.read_insert (m : Memory) (a : Nat) (v : Byte) (b : Nat) (h : ∀ c ∈ m, c.1 ≠ a) :
    (m.insert a v).read b = if a = b then v else m.read b := by
  induction m with
  | nil => simp [Memory.insert, Memory.read]
  | cons c m ih =>
    have hc : c.1 ≠ a := h c (List.mem_cons_self ..)
    have ih := ih fun c' h' => h c' (List.mem_cons_of_mem _ h')
    simp only [Memory.insert]
    split
    · simp [Memory.read]
    · by_cases hb : c.1 = b
      · subst hb; simp [Memory.read, Ne.symm hc]
      · simp [Memory.read, hb, ih]

/-- A write sets the byte it writes and leaves every other byte alone. -/
theorem Memory.read_write (m : Memory) (a : Nat) (v : Byte) (b : Nat) :
    (m.write a v).read b = if a = b then v else m.read b := by
  unfold Memory.write
  split
  · rename_i hv; rw [Memory.read_erase, hv]
  · rw [Memory.read_insert _ _ _ _ (Memory.not_mem_erase m a), Memory.read_erase]
    split <;> rfl

/-- The canonical form as propositions. -/
theorem Memory.wf_cons (c : Host.Cell) (m : Memory) :
    Memory.wf (c :: m) = true ↔
      c.1 < 65536 ∧ c.2 ≠ Memory.unlisted ∧ (∀ c' ∈ m, c.1 < c'.1) ∧ Memory.wf m = true := by
  simp [Memory.wf, and_assoc]

theorem Memory.wf_erase (m : Memory) (a : Nat) (h : m.wf = true) : (m.erase a).wf = true := by
  induction m with
  | nil => rfl
  | cons c m ih =>
    obtain ⟨h1, h2, h3, h4⟩ := (Memory.wf_cons c m).1 h
    simp only [Memory.erase, List.filter_cons] at ih ⊢
    split
    · exact (Memory.wf_cons _ _).2 ⟨h1, h2, fun c' hc' => h3 c' (List.mem_filter.1 hc').1, ih h4⟩
    · exact ih h4

theorem Memory.mem_insert (m : Memory) (a : Nat) (v : Byte) (c : Host.Cell) :
    c ∈ m.insert a v ↔ c = (a, v) ∨ c ∈ m := by
  induction m with
  | nil => simp [Memory.insert]
  | cons d m ih =>
    simp only [Memory.insert]
    split
    · simp
    · simp [ih, or_left_comm]

theorem Memory.wf_insert (m : Memory) (a : Nat) (v : Byte) (h : m.wf = true) (ha : a < 65536)
    (hv : v ≠ Memory.unlisted) (hm : ∀ c ∈ m, c.1 ≠ a) : (m.insert a v).wf = true := by
  induction m with
  | nil => exact (Memory.wf_cons (a, v) []).2 ⟨ha, hv, by simp, rfl⟩
  | cons c m ih =>
    obtain ⟨h1, h2, h3, h4⟩ := (Memory.wf_cons c m).1 h
    have hc : c.1 ≠ a := hm c (List.mem_cons_self ..)
    simp only [Memory.insert]
    split
    · rename_i hlt
      refine (Memory.wf_cons _ _).2 ⟨ha, hv, fun c' hc' => ?_, h⟩
      rcases List.mem_cons.1 hc' with rfl | hc'
      · exact hlt
      · exact Nat.lt_trans hlt (h3 c' hc')
    · rename_i hge
      refine (Memory.wf_cons _ _).2 ⟨h1, h2, fun c' hc' => ?_, ih h4 fun c' h' => hm c' (List.mem_cons_of_mem _ h')⟩
      rcases (Memory.mem_insert m a v c').1 hc' with rfl | hc'
      · show c.1 < a; omega
      · exact h3 c' hc'

/-- Every write keeps the canonical form. -/
theorem Memory.wf_write (m : Memory) (a : Nat) (v : Byte) (h : m.wf = true) (ha : a < 65536) :
    (m.write a v).wf = true := by
  unfold Memory.write
  split
  · exact Memory.wf_erase m a h
  · exact Memory.wf_insert _ a v (Memory.wf_erase m a h) ha ‹_› (Memory.not_mem_erase m a)

/-! The bus of an environment (R88 to R93). -/

theorem Region.index_lt (r : Region) (a : Addr) : r.index a < 65536 := by
  have h : a.toNat - r.base < 65536 := Nat.lt_of_le_of_lt (Nat.sub_le ..) a.isLt
  unfold Region.index
  split
  · exact Nat.lt_of_le_of_lt (Nat.mod_le ..) h
  · exact h

/-- What one component adds to a read. -/
theorem Platform.foldl_read (p : Platform) (h : List BusAccess) (a : Addr) (v : Byte) :
    p.foldl (fun v c => if c.covers a then v &&& c.output h a else v) v = v &&& p.read h a := by
  unfold Platform.read
  induction p generalizing v with
  | nil => exact (BitVec.and_allOnes (x := v)).symm
  | cons c p ih =>
    rw [List.foldl_cons, List.foldl_cons, ih, ih (if c.covers a then 0xFF &&& c.output h a else 0xFF)]
    have e : ∀ x : Byte, 0xFF &&& x = x := fun x => BitVec.allOnes_and (x := x)
    have e' : v &&& (0xFF : Byte) = v := BitVec.and_allOnes (x := v)
    split
    · rw [e, BitVec.and_assoc]
    · rw [← BitVec.and_assoc, e']

/-- A bus made of two parts reads the AND of what they read (R88). -/
theorem Platform.read_append (p q : Platform) (h : List BusAccess) (a : Addr) :
    Platform.read (p ++ q) h a = p.read h a &&& q.read h a := by
  rw [← Platform.foldl_read q h a (p.read h a)]
  exact List.foldl_append ..

/-- A write reaches both parts of a bus (R89). -/
theorem Platform.write_append (p q : Platform) (a : Addr) (v : Byte) :
    Platform.write (p ++ q) a v = p.write a v ++ q.write a v := List.map_append ..

/-- A bus with one component. -/
theorem Platform.read_one (c : Component) (h : List BusAccess) (a : Addr) (hc : c.covers a = true) :
    Platform.read [c] h a = c.output h a := by
  show (if c.covers a then 0xFF &&& c.output h a else 0xFF) = _
  rw [if_pos hc]
  exact BitVec.allOnes_and

/-- No device: the history plays no part. -/
theorem Platform.read_passive (p : Platform) (hp : p.passive = true) (h h' : List BusAccess) (a : Addr) :
    p.read h a = p.read h' a := by
  induction p with
  | nil => rfl
  | cons c p ih =>
    have hp : c.passive = true ∧ Platform.passive p = true := by
      rw [Platform.passive, List.all_cons, Bool.and_eq_true] at hp
      exact hp
    have e : ∀ g, Platform.read (c :: p) g a = Platform.read [c] g a &&& Platform.read p g a :=
      fun g => Platform.read_append [c] p g a
    rw [e, e, ih hp.2]
    cases c with
    | region r => rfl
    | device d => exact absurd hp.1 Bool.false_ne_true

theorem Region.wf_put (r : Region) (a : Addr) (v : Byte) (h : r.store.wf = true) : (r.put a v).store.wf = true :=
  Memory.wf_write _ _ _ h (r.index_lt a)

/-- A change of every component that keeps each one's storage canonical keeps the environment's. -/
theorem Platform.wf_map (p : Platform) (f : Component → Component) (hf : ∀ c, c.wf = true → (f c).wf = true)
    (h : p.wf = true) : Platform.wf (p.map f) = true := by
  unfold Platform.wf at h ⊢
  rw [List.all_map]
  exact List.all_eq_true.2 fun c hc => hf c (List.all_eq_true.1 h c hc)

/-- Every write keeps storage canonical (R71). -/
theorem Platform.wf_write (p : Platform) (a : Addr) (v : Byte) (h : p.wf = true) : (p.write a v).wf = true := by
  refine p.wf_map _ (fun c hc => ?_) h
  split
  · cases c with
    | region r =>
      show (if r.readOnly then r else r.put a v).store.wf = true
      split
      · exact hc
      · exact r.wf_put a v hc
    | device d => rfl
  · exact hc

/-- So does loading a byte from outside (log 12). -/
theorem Platform.wf_load (p : Platform) (a : Addr) (v : Byte) (h : p.wf = true) : (p.load a v).wf = true := by
  refine p.wf_map _ (fun c hc => ?_) h
  cases c with
  | region r =>
    show (if inRange r.base r.size a then r.put a v else r).store.wf = true
    split
    · exact r.wf_put a v hc
    · exact hc
  | device d => rfl

/-! The environment after accesses (R70): reads leave its storage. -/

section after
variable (p : Platform) (l l' : List BusAccess) (a : Addr) (v : Byte)
@[simp] theorem Platform.after_nil : p.after [] = p := rfl
@[simp] theorem Platform.after_read : p.after (.read a v :: l) = p.after l := rfl
@[simp] theorem Platform.after_write : p.after (.write a v :: l) = (p.write a v).after l := rfl
@[simp] theorem Platform.after_append : p.after (l ++ l') = (p.after l).after l' := List.foldl_append ..
@[simp] theorem Platform.wf_flat (m : Memory) : (Platform.flat m).wf = m.wf := Bool.and_true _
end after

theorem Platform.wf_after (p : Platform) (l : List BusAccess) (h : p.wf = true) : (p.after l).wf = true := by
  induction l generalizing p with
  | nil => exact h
  | cons e l ih =>
    cases e with
    | read a v => exact ih p h
    | write a v => exact ih _ (p.wf_write a v h)

/-! The environment of one 64 KB memory. -/

theorem flat_covers (a : Addr) : inRange 0 65536 a = true := by
  have h : a.toNat < 65536 := a.isLt
  simp [inRange, h]

theorem Platform.read_flat (m : Memory) (h : List BusAccess) (a : Addr) : (Platform.flat m).read h a = m.read a.toNat :=
  Platform.read_one _ h a (flat_covers a)

theorem Platform.write_flat (m : Memory) (a : Addr) (v : Byte) :
    (Platform.flat m).write a v = .flat (m.write a.toNat v) := by
  show [if inRange 0 65536 a then _ else _] = _
  rw [if_pos (flat_covers a)]
  rfl

/-- A write to a 64 KB memory sets its byte and leaves every other byte alone (R91). -/
theorem Platform.read_write_ram (p : Platform) (hp : p.isRam) (h h' : List BusAccess) (a q : Addr) (v : Byte) :
    (p.write a v).read h q = if a = q then v else p.read h' q := by
  rw [hp, Platform.write_flat, Platform.read_flat, Platform.read_flat, Memory.read_write]
  by_cases e : a = q
  · rw [if_pos e, if_pos (congrArg _ e)]
  · rw [if_neg e, if_neg fun e' => e (BitVec.eq_of_toNat_eq e')]

theorem Platform.isRam_write (p : Platform) (hp : p.isRam) (a : Addr) (v : Byte) : (p.write a v).isRam := by
  rw [hp, Platform.write_flat]; rfl

/-- A run of writes to a 64 KB memory, read back. -/
theorem Platform.read_after_ram (ws : List (Addr × Byte)) : ∀ (p : Platform), p.isRam → ∀ (h h' : List BusAccess) (q : Addr),
    (p.after (ws.map fun c => .write c.1 c.2)).read h q = lastWritten ws q (p.read h' q) := by
  induction ws with
  | nil => intro p hp h h' q; rw [hp]; exact (Platform.read_flat ..).trans (Platform.read_flat ..).symm
  | cons c ws ih =>
    intro p hp h h' q
    refine (ih (p.write c.1 c.2) (p.isRam_write hp _ _) h h q).trans ?_
    rw [Platform.read_write_ram p hp h h']
    rfl

/-- Two states with one environment and one history read alike. -/
theorem State.peek_congr {s t : State} (h : t.platform = s.platform) (h' : t.history = s.history) (q : Addr) :
    t.peek q = s.peek q := by
  rw [State.peek, State.peek, h, h']

end Sys2Proof.Machine
end

