-- ==== Sys2Proof/Laws/State.lean ====
section
/-! SUPPORT. One lemma per field of State per named update, each true by rfl, so that no proof unfolds a record update. -/

namespace Sys2Proof.Machine

section setFlag
variable (s : State) (f : Flag) (v : Bool)
@[simp] theorem State.setFlag_a : (s.setFlag f v).a = s.a := rfl
@[simp] theorem State.setFlag_x : (s.setFlag f v).x = s.x := rfl
@[simp] theorem State.setFlag_y : (s.setFlag f v).y = s.y := rfl
@[simp] theorem State.setFlag_sp : (s.setFlag f v).sp = s.sp := rfl
@[simp] theorem State.setFlag_pcl : (s.setFlag f v).pcl = s.pcl := rfl
@[simp] theorem State.setFlag_pch : (s.setFlag f v).pch = s.pch := rfl
@[simp] theorem State.setFlag_p : (s.setFlag f v).p = putBit s.p f.bit v := rfl
@[simp] theorem State.setFlag_al : (s.setFlag f v).al = s.al := rfl
@[simp] theorem State.setFlag_ah : (s.setFlag f v).ah = s.ah := rfl
@[simp] theorem State.setFlag_operand : (s.setFlag f v).operand = s.operand := rfl
@[simp] theorem State.setFlag_opCode : (s.setFlag f v).opCode = s.opCode := rfl
@[simp] theorem State.setFlag_opCodeCycle : (s.setFlag f v).opCodeCycle = s.opCodeCycle := rfl
@[simp] theorem State.setFlag_irqLevelDetector : (s.setFlag f v).irqLevelDetector = s.irqLevelDetector := rfl
@[simp] theorem State.setFlag_irqSignal : (s.setFlag f v).irqSignal = s.irqSignal := rfl
@[simp] theorem State.setFlag_nmiEdgeDetector : (s.setFlag f v).nmiEdgeDetector = s.nmiEdgeDetector := rfl
@[simp] theorem State.setFlag_nmiSignal : (s.setFlag f v).nmiSignal = s.nmiSignal := rfl
@[simp] theorem State.setFlag_decimalEnabled : (s.setFlag f v).decimalEnabled = s.decimalEnabled := rfl
@[simp] theorem State.setFlag_platform : (s.setFlag f v).platform = s.platform := rfl
@[simp] theorem State.setFlag_past : (s.setFlag f v).past = s.past := rfl
@[simp] theorem State.setFlag_bus : (s.setFlag f v).bus = s.bus := rfl
@[simp] theorem State.setFlag_peek (q : Addr) : (s.setFlag f v).peek q = s.peek q := rfl
@[simp] theorem State.setFlag_pc : (s.setFlag f v).pc = s.pc := rfl
@[simp] theorem State.setFlag_stackAddr : (s.setFlag f v).stackAddr = s.stackAddr := rfl
@[simp] theorem State.setFlag_ea : (s.setFlag f v).ea = s.ea := rfl
end setFlag

section setZN
variable (s : State) (v : Byte)
@[simp] theorem State.setZN_a : (s.setZN v).a = s.a := rfl
@[simp] theorem State.setZN_x : (s.setZN v).x = s.x := rfl
@[simp] theorem State.setZN_y : (s.setZN v).y = s.y := rfl
@[simp] theorem State.setZN_sp : (s.setZN v).sp = s.sp := rfl
@[simp] theorem State.setZN_pcl : (s.setZN v).pcl = s.pcl := rfl
@[simp] theorem State.setZN_pch : (s.setZN v).pch = s.pch := rfl
@[simp] theorem State.setZN_p : (s.setZN v).p = putBit (putBit s.p 1 (v == 0)) 7 (v.getLsbD 7) := rfl
@[simp] theorem State.setZN_al : (s.setZN v).al = s.al := rfl
@[simp] theorem State.setZN_ah : (s.setZN v).ah = s.ah := rfl
@[simp] theorem State.setZN_operand : (s.setZN v).operand = s.operand := rfl
@[simp] theorem State.setZN_opCode : (s.setZN v).opCode = s.opCode := rfl
@[simp] theorem State.setZN_opCodeCycle : (s.setZN v).opCodeCycle = s.opCodeCycle := rfl
@[simp] theorem State.setZN_irqLevelDetector : (s.setZN v).irqLevelDetector = s.irqLevelDetector := rfl
@[simp] theorem State.setZN_irqSignal : (s.setZN v).irqSignal = s.irqSignal := rfl
@[simp] theorem State.setZN_nmiEdgeDetector : (s.setZN v).nmiEdgeDetector = s.nmiEdgeDetector := rfl
@[simp] theorem State.setZN_nmiSignal : (s.setZN v).nmiSignal = s.nmiSignal := rfl
@[simp] theorem State.setZN_decimalEnabled : (s.setZN v).decimalEnabled = s.decimalEnabled := rfl
@[simp] theorem State.setZN_platform : (s.setZN v).platform = s.platform := rfl
@[simp] theorem State.setZN_past : (s.setZN v).past = s.past := rfl
@[simp] theorem State.setZN_bus : (s.setZN v).bus = s.bus := rfl
@[simp] theorem State.setZN_peek (q : Addr) : (s.setZN v).peek q = s.peek q := rfl
@[simp] theorem State.setZN_pc : (s.setZN v).pc = s.pc := rfl
@[simp] theorem State.setZN_stackAddr : (s.setZN v).stackAddr = s.stackAddr := rfl
@[simp] theorem State.setZN_ea : (s.setZN v).ea = s.ea := rfl
end setZN

section setStatus
variable (s : State) (v : Byte)
@[simp] theorem State.setStatus_a : (s.setStatus v).a = s.a := rfl
@[simp] theorem State.setStatus_x : (s.setStatus v).x = s.x := rfl
@[simp] theorem State.setStatus_y : (s.setStatus v).y = s.y := rfl
@[simp] theorem State.setStatus_sp : (s.setStatus v).sp = s.sp := rfl
@[simp] theorem State.setStatus_pcl : (s.setStatus v).pcl = s.pcl := rfl
@[simp] theorem State.setStatus_pch : (s.setStatus v).pch = s.pch := rfl
@[simp] theorem State.setStatus_p : (s.setStatus v).p = v ||| 0x20 := rfl
@[simp] theorem State.setStatus_al : (s.setStatus v).al = s.al := rfl
@[simp] theorem State.setStatus_ah : (s.setStatus v).ah = s.ah := rfl
@[simp] theorem State.setStatus_operand : (s.setStatus v).operand = s.operand := rfl
@[simp] theorem State.setStatus_opCode : (s.setStatus v).opCode = s.opCode := rfl
@[simp] theorem State.setStatus_opCodeCycle : (s.setStatus v).opCodeCycle = s.opCodeCycle := rfl
@[simp] theorem State.setStatus_irqLevelDetector : (s.setStatus v).irqLevelDetector = s.irqLevelDetector := rfl
@[simp] theorem State.setStatus_irqSignal : (s.setStatus v).irqSignal = s.irqSignal := rfl
@[simp] theorem State.setStatus_nmiEdgeDetector : (s.setStatus v).nmiEdgeDetector = s.nmiEdgeDetector := rfl
@[simp] theorem State.setStatus_nmiSignal : (s.setStatus v).nmiSignal = s.nmiSignal := rfl
@[simp] theorem State.setStatus_decimalEnabled : (s.setStatus v).decimalEnabled = s.decimalEnabled := rfl
@[simp] theorem State.setStatus_platform : (s.setStatus v).platform = s.platform := rfl
@[simp] theorem State.setStatus_past : (s.setStatus v).past = s.past := rfl
@[simp] theorem State.setStatus_bus : (s.setStatus v).bus = s.bus := rfl
@[simp] theorem State.setStatus_peek (q : Addr) : (s.setStatus v).peek q = s.peek q := rfl
@[simp] theorem State.setStatus_pc : (s.setStatus v).pc = s.pc := rfl
@[simp] theorem State.setStatus_stackAddr : (s.setStatus v).stackAddr = s.stackAddr := rfl
@[simp] theorem State.setStatus_ea : (s.setStatus v).ea = s.ea := rfl
end setStatus

section setPc
variable (s : State) (w : Addr)
@[simp] theorem State.setPc_a : (s.setPc w).a = s.a := rfl
@[simp] theorem State.setPc_x : (s.setPc w).x = s.x := rfl
@[simp] theorem State.setPc_y : (s.setPc w).y = s.y := rfl
@[simp] theorem State.setPc_sp : (s.setPc w).sp = s.sp := rfl
@[simp] theorem State.setPc_pcl : (s.setPc w).pcl = lo8 w := rfl
@[simp] theorem State.setPc_pch : (s.setPc w).pch = hi8 w := rfl
@[simp] theorem State.setPc_p : (s.setPc w).p = s.p := rfl
@[simp] theorem State.setPc_al : (s.setPc w).al = s.al := rfl
@[simp] theorem State.setPc_ah : (s.setPc w).ah = s.ah := rfl
@[simp] theorem State.setPc_operand : (s.setPc w).operand = s.operand := rfl
@[simp] theorem State.setPc_opCode : (s.setPc w).opCode = s.opCode := rfl
@[simp] theorem State.setPc_opCodeCycle : (s.setPc w).opCodeCycle = s.opCodeCycle := rfl
@[simp] theorem State.setPc_irqLevelDetector : (s.setPc w).irqLevelDetector = s.irqLevelDetector := rfl
@[simp] theorem State.setPc_irqSignal : (s.setPc w).irqSignal = s.irqSignal := rfl
@[simp] theorem State.setPc_nmiEdgeDetector : (s.setPc w).nmiEdgeDetector = s.nmiEdgeDetector := rfl
@[simp] theorem State.setPc_nmiSignal : (s.setPc w).nmiSignal = s.nmiSignal := rfl
@[simp] theorem State.setPc_decimalEnabled : (s.setPc w).decimalEnabled = s.decimalEnabled := rfl
@[simp] theorem State.setPc_platform : (s.setPc w).platform = s.platform := rfl
@[simp] theorem State.setPc_past : (s.setPc w).past = s.past := rfl
@[simp] theorem State.setPc_bus : (s.setPc w).bus = s.bus := rfl
@[simp] theorem State.setPc_flag (g : Flag) : (s.setPc w).flag g = s.flag g := rfl
@[simp] theorem State.setPc_peek (q : Addr) : (s.setPc w).peek q = s.peek q := rfl
@[simp] theorem State.setPc_stackAddr : (s.setPc w).stackAddr = s.stackAddr := rfl
@[simp] theorem State.setPc_ea : (s.setPc w).ea = s.ea := rfl
end setPc

section incPc
variable (s : State)
@[simp] theorem State.incPc_a : (s.incPc).a = s.a := rfl
@[simp] theorem State.incPc_x : (s.incPc).x = s.x := rfl
@[simp] theorem State.incPc_y : (s.incPc).y = s.y := rfl
@[simp] theorem State.incPc_sp : (s.incPc).sp = s.sp := rfl
@[simp] theorem State.incPc_pcl : (s.incPc).pcl = lo8 (s.pc + 1) := rfl
@[simp] theorem State.incPc_pch : (s.incPc).pch = hi8 (s.pc + 1) := rfl
@[simp] theorem State.incPc_p : (s.incPc).p = s.p := rfl
@[simp] theorem State.incPc_al : (s.incPc).al = s.al := rfl
@[simp] theorem State.incPc_ah : (s.incPc).ah = s.ah := rfl
@[simp] theorem State.incPc_operand : (s.incPc).operand = s.operand := rfl
@[simp] theorem State.incPc_opCode : (s.incPc).opCode = s.opCode := rfl
@[simp] theorem State.incPc_opCodeCycle : (s.incPc).opCodeCycle = s.opCodeCycle := rfl
@[simp] theorem State.incPc_irqLevelDetector : (s.incPc).irqLevelDetector = s.irqLevelDetector := rfl
@[simp] theorem State.incPc_irqSignal : (s.incPc).irqSignal = s.irqSignal := rfl
@[simp] theorem State.incPc_nmiEdgeDetector : (s.incPc).nmiEdgeDetector = s.nmiEdgeDetector := rfl
@[simp] theorem State.incPc_nmiSignal : (s.incPc).nmiSignal = s.nmiSignal := rfl
@[simp] theorem State.incPc_decimalEnabled : (s.incPc).decimalEnabled = s.decimalEnabled := rfl
@[simp] theorem State.incPc_platform : (s.incPc).platform = s.platform := rfl
@[simp] theorem State.incPc_past : (s.incPc).past = s.past := rfl
@[simp] theorem State.incPc_bus : (s.incPc).bus = s.bus := rfl
@[simp] theorem State.incPc_flag (g : Flag) : (s.incPc).flag g = s.flag g := rfl
@[simp] theorem State.incPc_peek (q : Addr) : (s.incPc).peek q = s.peek q := rfl
@[simp] theorem State.incPc_stackAddr : (s.incPc).stackAddr = s.stackAddr := rfl
@[simp] theorem State.incPc_ea : (s.incPc).ea = s.ea := rfl
end incPc

section logged
variable (s : State) (e : BusAccess)
@[simp] theorem State.logged_a : (s.logged e).a = s.a := rfl
@[simp] theorem State.logged_x : (s.logged e).x = s.x := rfl
@[simp] theorem State.logged_y : (s.logged e).y = s.y := rfl
@[simp] theorem State.logged_sp : (s.logged e).sp = s.sp := rfl
@[simp] theorem State.logged_pcl : (s.logged e).pcl = s.pcl := rfl
@[simp] theorem State.logged_pch : (s.logged e).pch = s.pch := rfl
@[simp] theorem State.logged_p : (s.logged e).p = s.p := rfl
@[simp] theorem State.logged_al : (s.logged e).al = s.al := rfl
@[simp] theorem State.logged_ah : (s.logged e).ah = s.ah := rfl
@[simp] theorem State.logged_operand : (s.logged e).operand = s.operand := rfl
@[simp] theorem State.logged_opCode : (s.logged e).opCode = s.opCode := rfl
@[simp] theorem State.logged_opCodeCycle : (s.logged e).opCodeCycle = s.opCodeCycle := rfl
@[simp] theorem State.logged_irqLevelDetector : (s.logged e).irqLevelDetector = s.irqLevelDetector := rfl
@[simp] theorem State.logged_irqSignal : (s.logged e).irqSignal = s.irqSignal := rfl
@[simp] theorem State.logged_nmiEdgeDetector : (s.logged e).nmiEdgeDetector = s.nmiEdgeDetector := rfl
@[simp] theorem State.logged_nmiSignal : (s.logged e).nmiSignal = s.nmiSignal := rfl
@[simp] theorem State.logged_decimalEnabled : (s.logged e).decimalEnabled = s.decimalEnabled := rfl
@[simp] theorem State.logged_platform : (s.logged e).platform = s.platform := rfl
@[simp] theorem State.logged_past : (s.logged e).past = s.past := rfl
@[simp] theorem State.logged_bus : (s.logged e).bus = s.bus ++ [e] := rfl
@[simp] theorem State.logged_flag (g : Flag) : (s.logged e).flag g = s.flag g := rfl
@[simp] theorem State.logged_pc : (s.logged e).pc = s.pc := rfl
@[simp] theorem State.logged_stackAddr : (s.logged e).stackAddr = s.stackAddr := rfl
@[simp] theorem State.logged_ea : (s.logged e).ea = s.ea := rfl
end logged

section readCycle
variable (s : State) (a : Addr)
@[simp] theorem State.readCycle_a : (s.readCycle a).a = s.a := rfl
@[simp] theorem State.readCycle_x : (s.readCycle a).x = s.x := rfl
@[simp] theorem State.readCycle_y : (s.readCycle a).y = s.y := rfl
@[simp] theorem State.readCycle_sp : (s.readCycle a).sp = s.sp := rfl
@[simp] theorem State.readCycle_pcl : (s.readCycle a).pcl = s.pcl := rfl
@[simp] theorem State.readCycle_pch : (s.readCycle a).pch = s.pch := rfl
@[simp] theorem State.readCycle_p : (s.readCycle a).p = s.p := rfl
@[simp] theorem State.readCycle_al : (s.readCycle a).al = s.al := rfl
@[simp] theorem State.readCycle_ah : (s.readCycle a).ah = s.ah := rfl
@[simp] theorem State.readCycle_operand : (s.readCycle a).operand = s.operand := rfl
@[simp] theorem State.readCycle_opCode : (s.readCycle a).opCode = s.opCode := rfl
@[simp] theorem State.readCycle_opCodeCycle : (s.readCycle a).opCodeCycle = s.opCodeCycle := rfl
@[simp] theorem State.readCycle_irqLevelDetector : (s.readCycle a).irqLevelDetector = s.irqLevelDetector := rfl
@[simp] theorem State.readCycle_irqSignal : (s.readCycle a).irqSignal = s.irqSignal := rfl
@[simp] theorem State.readCycle_nmiEdgeDetector : (s.readCycle a).nmiEdgeDetector = s.nmiEdgeDetector := rfl
@[simp] theorem State.readCycle_nmiSignal : (s.readCycle a).nmiSignal = s.nmiSignal := rfl
@[simp] theorem State.readCycle_decimalEnabled : (s.readCycle a).decimalEnabled = s.decimalEnabled := rfl
@[simp] theorem State.readCycle_platform : (s.readCycle a).platform = s.platform := rfl
@[simp] theorem State.readCycle_past : (s.readCycle a).past = s.past := rfl
@[simp] theorem State.readCycle_bus : (s.readCycle a).bus = s.bus ++ [.read a (s.peek a)] := rfl
@[simp] theorem State.readCycle_flag (g : Flag) : (s.readCycle a).flag g = s.flag g := rfl
@[simp] theorem State.readCycle_pc : (s.readCycle a).pc = s.pc := rfl
@[simp] theorem State.readCycle_stackAddr : (s.readCycle a).stackAddr = s.stackAddr := rfl
@[simp] theorem State.readCycle_ea : (s.readCycle a).ea = s.ea := rfl
end readCycle

section writeCycle
variable (s : State) (a : Addr) (v : Byte)
@[simp] theorem State.writeCycle_a : (s.writeCycle a v).a = s.a := rfl
@[simp] theorem State.writeCycle_x : (s.writeCycle a v).x = s.x := rfl
@[simp] theorem State.writeCycle_y : (s.writeCycle a v).y = s.y := rfl
@[simp] theorem State.writeCycle_sp : (s.writeCycle a v).sp = s.sp := rfl
@[simp] theorem State.writeCycle_pcl : (s.writeCycle a v).pcl = s.pcl := rfl
@[simp] theorem State.writeCycle_pch : (s.writeCycle a v).pch = s.pch := rfl
@[simp] theorem State.writeCycle_p : (s.writeCycle a v).p = s.p := rfl
@[simp] theorem State.writeCycle_al : (s.writeCycle a v).al = s.al := rfl
@[simp] theorem State.writeCycle_ah : (s.writeCycle a v).ah = s.ah := rfl
@[simp] theorem State.writeCycle_operand : (s.writeCycle a v).operand = s.operand := rfl
@[simp] theorem State.writeCycle_opCode : (s.writeCycle a v).opCode = s.opCode := rfl
@[simp] theorem State.writeCycle_opCodeCycle : (s.writeCycle a v).opCodeCycle = s.opCodeCycle := rfl
@[simp] theorem State.writeCycle_irqLevelDetector : (s.writeCycle a v).irqLevelDetector = s.irqLevelDetector := rfl
@[simp] theorem State.writeCycle_irqSignal : (s.writeCycle a v).irqSignal = s.irqSignal := rfl
@[simp] theorem State.writeCycle_nmiEdgeDetector : (s.writeCycle a v).nmiEdgeDetector = s.nmiEdgeDetector := rfl
@[simp] theorem State.writeCycle_nmiSignal : (s.writeCycle a v).nmiSignal = s.nmiSignal := rfl
@[simp] theorem State.writeCycle_decimalEnabled : (s.writeCycle a v).decimalEnabled = s.decimalEnabled := rfl
@[simp] theorem State.writeCycle_platform : (s.writeCycle a v).platform = s.platform.write a v := rfl
@[simp] theorem State.writeCycle_past : (s.writeCycle a v).past = s.past := rfl
@[simp] theorem State.writeCycle_bus : (s.writeCycle a v).bus = s.bus ++ [.write a v] := rfl
@[simp] theorem State.writeCycle_flag (g : Flag) : (s.writeCycle a v).flag g = s.flag g := rfl
@[simp] theorem State.writeCycle_pc : (s.writeCycle a v).pc = s.pc := rfl
@[simp] theorem State.writeCycle_stackAddr : (s.writeCycle a v).stackAddr = s.stackAddr := rfl
@[simp] theorem State.writeCycle_ea : (s.writeCycle a v).ea = s.ea := rfl
end writeCycle

section push
variable (s : State) (v : Byte)
@[simp] theorem State.push_a : (s.push v).a = s.a := rfl
@[simp] theorem State.push_x : (s.push v).x = s.x := rfl
@[simp] theorem State.push_y : (s.push v).y = s.y := rfl
@[simp] theorem State.push_sp : (s.push v).sp = s.sp - 1 := rfl
@[simp] theorem State.push_pcl : (s.push v).pcl = s.pcl := rfl
@[simp] theorem State.push_pch : (s.push v).pch = s.pch := rfl
@[simp] theorem State.push_p : (s.push v).p = s.p := rfl
@[simp] theorem State.push_al : (s.push v).al = s.al := rfl
@[simp] theorem State.push_ah : (s.push v).ah = s.ah := rfl
@[simp] theorem State.push_operand : (s.push v).operand = s.operand := rfl
@[simp] theorem State.push_opCode : (s.push v).opCode = s.opCode := rfl
@[simp] theorem State.push_opCodeCycle : (s.push v).opCodeCycle = s.opCodeCycle := rfl
@[simp] theorem State.push_irqLevelDetector : (s.push v).irqLevelDetector = s.irqLevelDetector := rfl
@[simp] theorem State.push_irqSignal : (s.push v).irqSignal = s.irqSignal := rfl
@[simp] theorem State.push_nmiEdgeDetector : (s.push v).nmiEdgeDetector = s.nmiEdgeDetector := rfl
@[simp] theorem State.push_nmiSignal : (s.push v).nmiSignal = s.nmiSignal := rfl
@[simp] theorem State.push_decimalEnabled : (s.push v).decimalEnabled = s.decimalEnabled := rfl
@[simp] theorem State.push_platform : (s.push v).platform = s.platform.write s.stackAddr v := rfl
@[simp] theorem State.push_past : (s.push v).past = s.past := rfl
@[simp] theorem State.push_bus : (s.push v).bus = s.bus ++ [.write s.stackAddr v] := rfl
@[simp] theorem State.push_flag (g : Flag) : (s.push v).flag g = s.flag g := rfl
@[simp] theorem State.push_pc : (s.push v).pc = s.pc := rfl
@[simp] theorem State.push_ea : (s.push v).ea = s.ea := rfl
end push

section readStackAndRaise
variable (s : State)
@[simp] theorem State.readStackAndRaise_a : (s.readStackAndRaise).a = s.a := rfl
@[simp] theorem State.readStackAndRaise_x : (s.readStackAndRaise).x = s.x := rfl
@[simp] theorem State.readStackAndRaise_y : (s.readStackAndRaise).y = s.y := rfl
@[simp] theorem State.readStackAndRaise_sp : (s.readStackAndRaise).sp = s.sp + 1 := rfl
@[simp] theorem State.readStackAndRaise_pcl : (s.readStackAndRaise).pcl = s.pcl := rfl
@[simp] theorem State.readStackAndRaise_pch : (s.readStackAndRaise).pch = s.pch := rfl
@[simp] theorem State.readStackAndRaise_p : (s.readStackAndRaise).p = s.p := rfl
@[simp] theorem State.readStackAndRaise_al : (s.readStackAndRaise).al = s.al := rfl
@[simp] theorem State.readStackAndRaise_ah : (s.readStackAndRaise).ah = s.ah := rfl
@[simp] theorem State.readStackAndRaise_operand : (s.readStackAndRaise).operand = s.operand := rfl
@[simp] theorem State.readStackAndRaise_opCode : (s.readStackAndRaise).opCode = s.opCode := rfl
@[simp] theorem State.readStackAndRaise_opCodeCycle : (s.readStackAndRaise).opCodeCycle = s.opCodeCycle := rfl
@[simp] theorem State.readStackAndRaise_irqLevelDetector : (s.readStackAndRaise).irqLevelDetector = s.irqLevelDetector := rfl
@[simp] theorem State.readStackAndRaise_irqSignal : (s.readStackAndRaise).irqSignal = s.irqSignal := rfl
@[simp] theorem State.readStackAndRaise_nmiEdgeDetector : (s.readStackAndRaise).nmiEdgeDetector = s.nmiEdgeDetector := rfl
@[simp] theorem State.readStackAndRaise_nmiSignal : (s.readStackAndRaise).nmiSignal = s.nmiSignal := rfl
@[simp] theorem State.readStackAndRaise_decimalEnabled : (s.readStackAndRaise).decimalEnabled = s.decimalEnabled := rfl
@[simp] theorem State.readStackAndRaise_platform : (s.readStackAndRaise).platform = s.platform := rfl
@[simp] theorem State.readStackAndRaise_past : (s.readStackAndRaise).past = s.past := rfl
@[simp] theorem State.readStackAndRaise_bus : (s.readStackAndRaise).bus = s.bus ++ [.read s.stackAddr (s.peek s.stackAddr)] := rfl
@[simp] theorem State.readStackAndRaise_flag (g : Flag) : (s.readStackAndRaise).flag g = s.flag g := rfl
@[simp] theorem State.readStackAndRaise_pc : (s.readStackAndRaise).pc = s.pc := rfl
@[simp] theorem State.readStackAndRaise_ea : (s.readStackAndRaise).ea = s.ea := rfl
end readStackAndRaise

section poll
variable (s : State)
@[simp] theorem State.poll_a : s.poll.a = s.a := rfl
@[simp] theorem State.poll_x : s.poll.x = s.x := rfl
@[simp] theorem State.poll_y : s.poll.y = s.y := rfl
@[simp] theorem State.poll_sp : s.poll.sp = s.sp := rfl
@[simp] theorem State.poll_pcl : s.poll.pcl = s.pcl := rfl
@[simp] theorem State.poll_pch : s.poll.pch = s.pch := rfl
@[simp] theorem State.poll_p : s.poll.p = s.p := rfl
@[simp] theorem State.poll_al : s.poll.al = s.al := rfl
@[simp] theorem State.poll_ah : s.poll.ah = s.ah := rfl
@[simp] theorem State.poll_operand : s.poll.operand = s.operand := rfl
@[simp] theorem State.poll_opCode : s.poll.opCode = s.opCode := rfl
@[simp] theorem State.poll_opCodeCycle : s.poll.opCodeCycle = s.opCodeCycle := rfl
@[simp] theorem State.poll_irqLevelDetector : s.poll.irqLevelDetector = s.irqLevelDetector := rfl
@[simp] theorem State.poll_irqSignal : s.poll.irqSignal = s.irqLevelDetector := rfl
@[simp] theorem State.poll_nmiEdgeDetector : s.poll.nmiEdgeDetector = false := rfl
@[simp] theorem State.poll_nmiSignal : s.poll.nmiSignal = (s.nmiSignal || s.nmiEdgeDetector) := rfl
@[simp] theorem State.poll_decimalEnabled : s.poll.decimalEnabled = s.decimalEnabled := rfl
@[simp] theorem State.poll_platform : s.poll.platform = s.platform := rfl
@[simp] theorem State.poll_past : s.poll.past = s.past := rfl
@[simp] theorem State.poll_bus : s.poll.bus = s.bus := rfl
@[simp] theorem State.poll_flag (g : Flag) : s.poll.flag g = s.flag g := rfl
@[simp] theorem State.poll_peek (q : Addr) : s.poll.peek q = s.peek q := rfl
@[simp] theorem State.poll_pc : s.poll.pc = s.pc := rfl
@[simp] theorem State.poll_stackAddr : s.poll.stackAddr = s.stackAddr := rfl
@[simp] theorem State.poll_ea : s.poll.ea = s.ea := rfl
end poll

section takeByte
variable (s : State) (b : Byte)
@[simp] theorem State.takeByte_a : (s.takeByte b).a = s.a := rfl
@[simp] theorem State.takeByte_x : (s.takeByte b).x = s.x := rfl
@[simp] theorem State.takeByte_y : (s.takeByte b).y = s.y := rfl
@[simp] theorem State.takeByte_sp : (s.takeByte b).sp = s.sp := rfl
@[simp] theorem State.takeByte_pcl : (s.takeByte b).pcl = lo8 (s.pc + 1) := rfl
@[simp] theorem State.takeByte_pch : (s.takeByte b).pch = hi8 (s.pc + 1) := rfl
@[simp] theorem State.takeByte_p : (s.takeByte b).p = s.p := rfl
@[simp] theorem State.takeByte_al : (s.takeByte b).al = s.al := rfl
@[simp] theorem State.takeByte_ah : (s.takeByte b).ah = s.ah := rfl
@[simp] theorem State.takeByte_operand : (s.takeByte b).operand = s.operand := rfl
@[simp] theorem State.takeByte_opCode : (s.takeByte b).opCode = s.opCode := rfl
@[simp] theorem State.takeByte_opCodeCycle : (s.takeByte b).opCodeCycle = s.opCodeCycle := rfl
@[simp] theorem State.takeByte_irqLevelDetector : (s.takeByte b).irqLevelDetector = s.irqLevelDetector := rfl
@[simp] theorem State.takeByte_irqSignal : (s.takeByte b).irqSignal = s.irqSignal := rfl
@[simp] theorem State.takeByte_nmiEdgeDetector : (s.takeByte b).nmiEdgeDetector = s.nmiEdgeDetector := rfl
@[simp] theorem State.takeByte_nmiSignal : (s.takeByte b).nmiSignal = s.nmiSignal := rfl
@[simp] theorem State.takeByte_decimalEnabled : (s.takeByte b).decimalEnabled = s.decimalEnabled := rfl
@[simp] theorem State.takeByte_platform : (s.takeByte b).platform = s.platform := rfl
@[simp] theorem State.takeByte_past : (s.takeByte b).past = s.past := rfl
@[simp] theorem State.takeByte_bus : (s.takeByte b).bus = s.bus ++ [.read s.pc b] := rfl
@[simp] theorem State.takeByte_flag (g : Flag) : (s.takeByte b).flag g = s.flag g := rfl
@[simp] theorem State.takeByte_stackAddr : (s.takeByte b).stackAddr = s.stackAddr := rfl
@[simp] theorem State.takeByte_ea : (s.takeByte b).ea = s.ea := rfl
end takeByte

section fetchOpcode
variable (s : State) (op : Byte)
@[simp] theorem State.fetchOpcode_a : (s.fetchOpcode op).a = s.a := rfl
@[simp] theorem State.fetchOpcode_x : (s.fetchOpcode op).x = s.x := rfl
@[simp] theorem State.fetchOpcode_y : (s.fetchOpcode op).y = s.y := rfl
@[simp] theorem State.fetchOpcode_sp : (s.fetchOpcode op).sp = s.sp := rfl
@[simp] theorem State.fetchOpcode_pcl : (s.fetchOpcode op).pcl = lo8 (s.pc + 1) := rfl
@[simp] theorem State.fetchOpcode_pch : (s.fetchOpcode op).pch = hi8 (s.pc + 1) := rfl
@[simp] theorem State.fetchOpcode_p : (s.fetchOpcode op).p = s.p := rfl
@[simp] theorem State.fetchOpcode_al : (s.fetchOpcode op).al = s.al := rfl
@[simp] theorem State.fetchOpcode_ah : (s.fetchOpcode op).ah = s.ah := rfl
@[simp] theorem State.fetchOpcode_operand : (s.fetchOpcode op).operand = s.operand := rfl
@[simp] theorem State.fetchOpcode_opCode : (s.fetchOpcode op).opCode = .op op := rfl
@[simp] theorem State.fetchOpcode_opCodeCycle : (s.fetchOpcode op).opCodeCycle = s.opCodeCycle := rfl
@[simp] theorem State.fetchOpcode_irqLevelDetector : (s.fetchOpcode op).irqLevelDetector = s.irqLevelDetector := rfl
@[simp] theorem State.fetchOpcode_irqSignal : (s.fetchOpcode op).irqSignal = s.irqSignal := rfl
@[simp] theorem State.fetchOpcode_nmiEdgeDetector : (s.fetchOpcode op).nmiEdgeDetector = s.nmiEdgeDetector := rfl
@[simp] theorem State.fetchOpcode_nmiSignal : (s.fetchOpcode op).nmiSignal = s.nmiSignal := rfl
@[simp] theorem State.fetchOpcode_decimalEnabled : (s.fetchOpcode op).decimalEnabled = s.decimalEnabled := rfl
@[simp] theorem State.fetchOpcode_platform : (s.fetchOpcode op).platform = s.platform := rfl
@[simp] theorem State.fetchOpcode_past : (s.fetchOpcode op).past = s.history := rfl
@[simp] theorem State.fetchOpcode_bus : (s.fetchOpcode op).bus = [.read s.pc op] := rfl
@[simp] theorem State.fetchOpcode_flag (g : Flag) : (s.fetchOpcode op).flag g = s.flag g := rfl
@[simp] theorem State.fetchOpcode_stackAddr : (s.fetchOpcode op).stackAddr = s.stackAddr := rfl
@[simp] theorem State.fetchOpcode_ea : (s.fetchOpcode op).ea = s.ea := rfl
end fetchOpcode

section setAlu
variable (s : State) (r : AluResult)
@[simp] theorem State.setAlu_a : (s.setAlu r).a = r.value := rfl
@[simp] theorem State.setAlu_x : (s.setAlu r).x = s.x := rfl
@[simp] theorem State.setAlu_y : (s.setAlu r).y = s.y := rfl
@[simp] theorem State.setAlu_sp : (s.setAlu r).sp = s.sp := rfl
@[simp] theorem State.setAlu_pcl : (s.setAlu r).pcl = s.pcl := rfl
@[simp] theorem State.setAlu_pch : (s.setAlu r).pch = s.pch := rfl
@[simp] theorem State.setAlu_p : (s.setAlu r).p = putBit (putBit (putBit (putBit s.p 7 r.n) 6 r.v) 1 r.z) 0 r.c := rfl
@[simp] theorem State.setAlu_al : (s.setAlu r).al = s.al := rfl
@[simp] theorem State.setAlu_ah : (s.setAlu r).ah = s.ah := rfl
@[simp] theorem State.setAlu_operand : (s.setAlu r).operand = s.operand := rfl
@[simp] theorem State.setAlu_opCode : (s.setAlu r).opCode = s.opCode := rfl
@[simp] theorem State.setAlu_opCodeCycle : (s.setAlu r).opCodeCycle = s.opCodeCycle := rfl
@[simp] theorem State.setAlu_irqLevelDetector : (s.setAlu r).irqLevelDetector = s.irqLevelDetector := rfl
@[simp] theorem State.setAlu_irqSignal : (s.setAlu r).irqSignal = s.irqSignal := rfl
@[simp] theorem State.setAlu_nmiEdgeDetector : (s.setAlu r).nmiEdgeDetector = s.nmiEdgeDetector := rfl
@[simp] theorem State.setAlu_nmiSignal : (s.setAlu r).nmiSignal = s.nmiSignal := rfl
@[simp] theorem State.setAlu_decimalEnabled : (s.setAlu r).decimalEnabled = s.decimalEnabled := rfl
@[simp] theorem State.setAlu_platform : (s.setAlu r).platform = s.platform := rfl
@[simp] theorem State.setAlu_past : (s.setAlu r).past = s.past := rfl
@[simp] theorem State.setAlu_bus : (s.setAlu r).bus = s.bus := rfl
@[simp] theorem State.setAlu_peek (q : Addr) : (s.setAlu r).peek q = s.peek q := rfl
@[simp] theorem State.setAlu_pc : (s.setAlu r).pc = s.pc := rfl
@[simp] theorem State.setAlu_stackAddr : (s.setAlu r).stackAddr = s.stackAddr := rfl
@[simp] theorem State.setAlu_ea : (s.setAlu r).ea = s.ea := rfl
end setAlu

section setIrq
variable (s : State)
@[simp] theorem State.setIrq_a : (s.setIrq).a = s.a := rfl
@[simp] theorem State.setIrq_x : (s.setIrq).x = s.x := rfl
@[simp] theorem State.setIrq_y : (s.setIrq).y = s.y := rfl
@[simp] theorem State.setIrq_sp : (s.setIrq).sp = s.sp := rfl
@[simp] theorem State.setIrq_pcl : (s.setIrq).pcl = s.pcl := rfl
@[simp] theorem State.setIrq_pch : (s.setIrq).pch = s.pch := rfl
@[simp] theorem State.setIrq_p : (s.setIrq).p = s.p := rfl
@[simp] theorem State.setIrq_al : (s.setIrq).al = s.al := rfl
@[simp] theorem State.setIrq_ah : (s.setIrq).ah = s.ah := rfl
@[simp] theorem State.setIrq_operand : (s.setIrq).operand = s.operand := rfl
@[simp] theorem State.setIrq_opCode : (s.setIrq).opCode = s.opCode := rfl
@[simp] theorem State.setIrq_opCodeCycle : (s.setIrq).opCodeCycle = s.opCodeCycle := rfl
@[simp] theorem State.setIrq_irqLevelDetector : (s.setIrq).irqLevelDetector = true := rfl
@[simp] theorem State.setIrq_irqSignal : (s.setIrq).irqSignal = s.irqSignal := rfl
@[simp] theorem State.setIrq_nmiEdgeDetector : (s.setIrq).nmiEdgeDetector = s.nmiEdgeDetector := rfl
@[simp] theorem State.setIrq_nmiSignal : (s.setIrq).nmiSignal = s.nmiSignal := rfl
@[simp] theorem State.setIrq_decimalEnabled : (s.setIrq).decimalEnabled = s.decimalEnabled := rfl
@[simp] theorem State.setIrq_platform : (s.setIrq).platform = s.platform := rfl
@[simp] theorem State.setIrq_past : (s.setIrq).past = s.past := rfl
@[simp] theorem State.setIrq_bus : (s.setIrq).bus = s.bus := rfl
@[simp] theorem State.setIrq_flag (g : Flag) : (s.setIrq).flag g = s.flag g := rfl
@[simp] theorem State.setIrq_peek (q : Addr) : (s.setIrq).peek q = s.peek q := rfl
@[simp] theorem State.setIrq_pc : (s.setIrq).pc = s.pc := rfl
@[simp] theorem State.setIrq_stackAddr : (s.setIrq).stackAddr = s.stackAddr := rfl
@[simp] theorem State.setIrq_ea : (s.setIrq).ea = s.ea := rfl
end setIrq

section clearIrq
variable (s : State)
@[simp] theorem State.clearIrq_a : (s.clearIrq).a = s.a := rfl
@[simp] theorem State.clearIrq_x : (s.clearIrq).x = s.x := rfl
@[simp] theorem State.clearIrq_y : (s.clearIrq).y = s.y := rfl
@[simp] theorem State.clearIrq_sp : (s.clearIrq).sp = s.sp := rfl
@[simp] theorem State.clearIrq_pcl : (s.clearIrq).pcl = s.pcl := rfl
@[simp] theorem State.clearIrq_pch : (s.clearIrq).pch = s.pch := rfl
@[simp] theorem State.clearIrq_p : (s.clearIrq).p = s.p := rfl
@[simp] theorem State.clearIrq_al : (s.clearIrq).al = s.al := rfl
@[simp] theorem State.clearIrq_ah : (s.clearIrq).ah = s.ah := rfl
@[simp] theorem State.clearIrq_operand : (s.clearIrq).operand = s.operand := rfl
@[simp] theorem State.clearIrq_opCode : (s.clearIrq).opCode = s.opCode := rfl
@[simp] theorem State.clearIrq_opCodeCycle : (s.clearIrq).opCodeCycle = s.opCodeCycle := rfl
@[simp] theorem State.clearIrq_irqLevelDetector : (s.clearIrq).irqLevelDetector = false := rfl
@[simp] theorem State.clearIrq_irqSignal : (s.clearIrq).irqSignal = s.irqSignal := rfl
@[simp] theorem State.clearIrq_nmiEdgeDetector : (s.clearIrq).nmiEdgeDetector = s.nmiEdgeDetector := rfl
@[simp] theorem State.clearIrq_nmiSignal : (s.clearIrq).nmiSignal = s.nmiSignal := rfl
@[simp] theorem State.clearIrq_decimalEnabled : (s.clearIrq).decimalEnabled = s.decimalEnabled := rfl
@[simp] theorem State.clearIrq_platform : (s.clearIrq).platform = s.platform := rfl
@[simp] theorem State.clearIrq_past : (s.clearIrq).past = s.past := rfl
@[simp] theorem State.clearIrq_bus : (s.clearIrq).bus = s.bus := rfl
@[simp] theorem State.clearIrq_flag (g : Flag) : (s.clearIrq).flag g = s.flag g := rfl
@[simp] theorem State.clearIrq_peek (q : Addr) : (s.clearIrq).peek q = s.peek q := rfl
@[simp] theorem State.clearIrq_pc : (s.clearIrq).pc = s.pc := rfl
@[simp] theorem State.clearIrq_stackAddr : (s.clearIrq).stackAddr = s.stackAddr := rfl
@[simp] theorem State.clearIrq_ea : (s.clearIrq).ea = s.ea := rfl
end clearIrq

section setNmi
variable (s : State)
@[simp] theorem State.setNmi_a : (s.setNmi).a = s.a := rfl
@[simp] theorem State.setNmi_x : (s.setNmi).x = s.x := rfl
@[simp] theorem State.setNmi_y : (s.setNmi).y = s.y := rfl
@[simp] theorem State.setNmi_sp : (s.setNmi).sp = s.sp := rfl
@[simp] theorem State.setNmi_pcl : (s.setNmi).pcl = s.pcl := rfl
@[simp] theorem State.setNmi_pch : (s.setNmi).pch = s.pch := rfl
@[simp] theorem State.setNmi_p : (s.setNmi).p = s.p := rfl
@[simp] theorem State.setNmi_al : (s.setNmi).al = s.al := rfl
@[simp] theorem State.setNmi_ah : (s.setNmi).ah = s.ah := rfl
@[simp] theorem State.setNmi_operand : (s.setNmi).operand = s.operand := rfl
@[simp] theorem State.setNmi_opCode : (s.setNmi).opCode = s.opCode := rfl
@[simp] theorem State.setNmi_opCodeCycle : (s.setNmi).opCodeCycle = s.opCodeCycle := rfl
@[simp] theorem State.setNmi_irqLevelDetector : (s.setNmi).irqLevelDetector = s.irqLevelDetector := rfl
@[simp] theorem State.setNmi_irqSignal : (s.setNmi).irqSignal = s.irqSignal := rfl
@[simp] theorem State.setNmi_nmiEdgeDetector : (s.setNmi).nmiEdgeDetector = true := rfl
@[simp] theorem State.setNmi_nmiSignal : (s.setNmi).nmiSignal = s.nmiSignal := rfl
@[simp] theorem State.setNmi_decimalEnabled : (s.setNmi).decimalEnabled = s.decimalEnabled := rfl
@[simp] theorem State.setNmi_platform : (s.setNmi).platform = s.platform := rfl
@[simp] theorem State.setNmi_past : (s.setNmi).past = s.past := rfl
@[simp] theorem State.setNmi_bus : (s.setNmi).bus = s.bus := rfl
@[simp] theorem State.setNmi_flag (g : Flag) : (s.setNmi).flag g = s.flag g := rfl
@[simp] theorem State.setNmi_peek (q : Addr) : (s.setNmi).peek q = s.peek q := rfl
@[simp] theorem State.setNmi_pc : (s.setNmi).pc = s.pc := rfl
@[simp] theorem State.setNmi_stackAddr : (s.setNmi).stackAddr = s.stackAddr := rfl
@[simp] theorem State.setNmi_ea : (s.setNmi).ea = s.ea := rfl
end setNmi

/-! The history (R70): an access joins it, nothing else changes it. -/

section history
variable (s : State) (e : BusAccess) (a : Addr) (b v : Byte) (f : Flag) (g : Bool) (r : AluResult) (w : Addr)
@[simp] theorem State.setFlag_history : (s.setFlag f g).history = s.history := rfl
@[simp] theorem State.setZN_history : (s.setZN v).history = s.history := rfl
@[simp] theorem State.setStatus_history : (s.setStatus v).history = s.history := rfl
@[simp] theorem State.setAlu_history : (s.setAlu r).history = s.history := rfl
@[simp] theorem State.setPc_history : (s.setPc w).history = s.history := rfl
@[simp] theorem State.incPc_history : s.incPc.history = s.history := rfl
@[simp] theorem State.poll_history : s.poll.history = s.history := rfl
@[simp] theorem State.setIrq_history : s.setIrq.history = s.history := rfl
@[simp] theorem State.clearIrq_history : s.clearIrq.history = s.history := rfl
@[simp] theorem State.setNmi_history : s.setNmi.history = s.history := rfl
@[simp] theorem State.logged_history : (s.logged e).history = s.history ++ [e] := (List.append_assoc ..).symm
@[simp] theorem State.readCycle_history : (s.readCycle a).history = s.history ++ [.read a (s.peek a)] :=
  (List.append_assoc ..).symm
@[simp] theorem State.writeCycle_history : (s.writeCycle a v).history = s.history ++ [.write a v] :=
  (List.append_assoc ..).symm
@[simp] theorem State.push_history : (s.push v).history = s.history ++ [.write s.stackAddr v] :=
  (List.append_assoc ..).symm
@[simp] theorem State.readStackAndRaise_history :
    s.readStackAndRaise.history = s.history ++ [.read s.stackAddr (s.peek s.stackAddr)] := (List.append_assoc ..).symm
@[simp] theorem State.takeByte_history : (s.takeByte b).history = s.history ++ [.read s.pc b] :=
  (List.append_assoc ..).symm
@[simp] theorem State.fetchOpcode_history : (s.fetchOpcode b).history = s.history ++ [.read s.pc b] := rfl
end history

/-! Construction and reset (R420, R421, R423): the environment stays as it is, but for the two reads of the vector. -/

section construct
variable (p : Platform) (h : List BusAccess) (d : Bool) (s : State)
@[simp] theorem State.construct_platform : (State.construct p h d).platform = p := rfl
@[simp] theorem State.construct_past : (State.construct p h d).past = h := rfl
@[simp] theorem State.construct_decimalEnabled : (State.construct p h d).decimalEnabled = d := rfl
@[simp] theorem State.reconstruct_platform : (s.reconstruct d).platform = s.platform := rfl
@[simp] theorem State.reconstruct_past : (s.reconstruct d).past = s.history := rfl
@[simp] theorem State.reconstruct_decimalEnabled : (s.reconstruct d).decimalEnabled = d := rfl
theorem State.construct_bus :
    (State.construct p h d).bus =
      [.read resetVector (p.read h resetVector),
       .read (resetVector + 1)
         (p.read (h ++ [.read resetVector (p.read h resetVector)]) (resetVector + 1))] := by
  simp [State.construct, State.readCycle, State.logged, State.peek, State.history]
end construct

/-! What may happen between Ticks (R394, R85). -/

section event
variable (s : State) (c : HostCall) (a : Addr) (v : Byte)
@[simp] theorem State.event_call : s.event (.call c) = s.call c := rfl
@[simp] theorem State.event_deviceStore : s.event (.deviceStore a v) = { s with platform := s.platform.write a v } := rfl
end event

end Sys2Proof.Machine
end

