-- ==== Sys2Proof/Laws/Flags.lean ====
section
/-! SUPPORT. What each named update of P does to each flag. -/

namespace Sys2Proof.Machine

theorem Flag.bit_lt (f : Flag) : f.bit < 8 := by cases f <;> decide

theorem Flag.bit_inj {f g : Flag} : f.bit = g.bit ↔ f = g := by
  cases f <;> cases g <;> decide

/-- A bit of `putBit`. -/
theorem putBit_getLsbD (p : Byte) (i j : Nat) (v : Bool) (hj : j < 8) :
    (putBit p i v).getLsbD j = if i = j then v else p.getLsbD j := by
  cases v <;> simp only [putBit, if_true, Bool.false_eq_true, if_false, BitVec.getLsbD_or, BitVec.getLsbD_and,
    BitVec.getLsbD_not, BitVec.getLsbD_shiftLeft, BitVec.getLsbD_one, hj]
  all_goals
    rcases Nat.lt_trichotomy i j with h | h | h
    · simp [show ¬ j < i by omega, show i ≠ j by omega, show j - i ≠ 0 by omega]
    · simp [h]
    · simp [h, show i ≠ j by omega]

/-- Bytes with the same eight bits are equal. -/
theorem byte_ext {p q : Byte} (h : ∀ i < 8, p.getLsbD i = q.getLsbD i) : p = q :=
  BitVec.eq_of_getLsbD_eq fun i hi => h i hi

/-- `P.f <- v` changes flag `f` alone. -/
@[simp] theorem State.flag_setFlag (s : State) (f g : Flag) (v : Bool) :
    (s.setFlag f v).flag g = if f = g then v else s.flag g := by
  simp only [State.flag, State.setFlag, putBit_getLsbD _ _ _ _ g.bit_lt, Flag.bit_inj]

/-- SetZN changes Z and N alone (R7). -/
@[simp] theorem State.flag_setZN (s : State) (v : Byte) (g : Flag) :
    (s.setZN v).flag g = if g = .n then v.getLsbD 7 else if g = .z then v == 0 else s.flag g := by
  cases g <;> simp [State.setZN]

/-- A result puts its four flags into P, and no other. -/
@[simp] theorem State.flag_setAlu (s : State) (r : AluResult) (g : Flag) :
    (s.setAlu r).flag g = match g with
      | .n => r.n | .v => r.v | .z => r.z | .c => r.c
      | g => s.flag g := by
  cases g <;> simp [State.setAlu] <;> rfl

/-- A compare changes C, Z and N alone (R210). -/
@[simp] theorem State.flag_compare (s : State) (r v : Byte) (g : Flag) :
    (s.compare r v).flag g = match g with
      | .c => decide (v.toNat ≤ r.toNat) | .z => r - v == 0 | .n => (r - v).getLsbD 7
      | g => s.flag g := by
  cases g <;> simp [State.compare]

/-- The composite write takes every bit of the byte but bit 5, which is 1 (R47). -/
@[simp] theorem State.flag_setStatus (s : State) (v : Byte) (g : Flag) :
    (s.setStatus v).flag g = if g = .u then true else v.getLsbD g.bit := by
  have h : ∀ i < 8, (v ||| 0x20).getLsbD i = if i = 5 then true else v.getLsbD i := by
    intro i hi
    rw [BitVec.getLsbD_or]
    interval_cases i <;> simp
  show (v ||| 0x20).getLsbD g.bit = _
  rw [h _ g.bit_lt]
  cases g <;> simp [Flag.bit]

/-- The bits of a pushed copy of P (R48, R390): bit 4 as pushed, bit 5 1, the rest live. -/
theorem State.statusImage_getLsbD (s : State) (b : Bool) (i : Nat) (hi : i < 8) :
    (s.statusImage b).getLsbD i = if i = 4 then b else if i = 5 then true else s.p.getLsbD i := by
  simp only [State.statusImage, BitVec.getLsbD_or, BitVec.getLsbD_and]
  interval_cases i <;> cases b <;> simp

/-- A status register put back from a pushed copy reads every flag as it was, but B (R47, R48). -/
theorem State.flag_setStatus_image (s t : State) (b : Bool) (g : Flag) (hg : g ≠ .b) (hu : t.flag .u = true) :
    (s.setStatus (t.statusImage b)).flag g = t.flag g := by
  rw [State.flag_setStatus, State.statusImage_getLsbD _ _ _ g.bit_lt]
  cases g <;> simp_all [Flag.bit, State.flag]

section frames
variable (s : State)

/-- ADD, SUB, ARR and the compare change A and P alone. -/
theorem State.add_eq (v : Byte) : ∃ r, s.add v = s.setAlu r := ⟨_, rfl⟩
theorem State.sub_eq (v : Byte) : ∃ r, s.sub v = s.setAlu r := ⟨_, rfl⟩
theorem State.arr_eq (v : Byte) : ∃ r, s.arr v = s.setAlu r := ⟨_, rfl⟩
theorem State.compare_eq (r v : Byte) : ∃ p, s.compare r v = { s with p := p } := ⟨_, rfl⟩
theorem State.setFlag_eq (f : Flag) (v : Bool) : ∃ p, s.setFlag f v = { s with p := p } := ⟨_, rfl⟩

end frames

end Sys2Proof.Machine
end

