-- ==== Sys2Proof/Laws/Words.lean ====
section
/-! SUPPORT. The halves of a 16-bit word, and the address arithmetic of the indexed modes and the branches. -/

namespace Sys2Proof

theorem wordOf_toNat (h l : Byte) : (wordOf h l).toNat = h.toNat * 256 + l.toNat := by
  refine (BitVec.toNat_append h l).trans ?_
  rw [← Nat.shiftLeft_add_eq_or_of_lt l.isLt, Nat.shiftLeft_eq]

theorem lo8_toNat (w : Addr) : (lo8 w).toNat = w.toNat % 256 := by simp [lo8]

theorem hi8_toNat (w : Addr) : (hi8 w).toNat = w.toNat / 256 := by
  have := w.isLt
  simp only [hi8, BitVec.toNat_setWidth, BitVec.toNat_ushiftRight, Nat.shiftRight_eq_div_pow]
  omega

@[simp] theorem lo8_wordOf (h l : Byte) : lo8 (wordOf h l) = l := by
  apply BitVec.eq_of_toNat_eq
  have := l.isLt
  rw [lo8_toNat, wordOf_toNat]
  omega

@[simp] theorem hi8_wordOf (h l : Byte) : hi8 (wordOf h l) = h := by
  apply BitVec.eq_of_toNat_eq
  have := l.isLt
  rw [hi8_toNat, wordOf_toNat]
  omega

@[simp] theorem wordOf_hi8_lo8 (w : Addr) : wordOf (hi8 w) (lo8 w) = w := by
  apply BitVec.eq_of_toNat_eq
  rw [wordOf_toNat, hi8_toNat, lo8_toNat]
  omega

theorem wordOf_inj {h l h' l' : Byte} : wordOf h l = wordOf h' l' ↔ h = h' ∧ l = l' := by
  constructor
  · intro e
    exact ⟨by rw [← hi8_wordOf h l, e, hi8_wordOf], by rw [← lo8_wordOf h l, e, lo8_wordOf]⟩
  · rintro ⟨rfl, rfl⟩; rfl

/-- The page fix-up of an indexed mode gives the sum modulo 65536 (R104, R148, R151). -/
theorem wordOf_fixUp (h l i : Byte) :
    wordOf (if (l + i).toNat < i.toNat then h + 1 else h) (l + i) = wordOf h l + i.setWidth 16 := by
  apply BitVec.eq_of_toNat_eq
  have hh := h.isLt
  have hl := l.isLt
  have hi := i.isLt
  rw [BitVec.toNat_add (wordOf h l), wordOf_toNat, wordOf_toNat, BitVec.toNat_setWidth]
  have h1 : BitVec.toNat (1 : Byte) = 1 := rfl
  split <;> simp only [BitVec.toNat_add] at * <;> omega

/-- `Crossed` is the carry of the addition to the low byte (R151). -/
theorem crossed_iff_carry (l i : Byte) : (l + i).toNat < i.toNat ↔ l.toNat + i.toNat ≥ 256 := by
  have hl := l.isLt
  have hi := i.isLt
  rw [BitVec.toNat_add]
  omega

/-- Bit 7 of a byte is its sign (R6). -/
theorem getLsbD_seven (o : Byte) : o.getLsbD 7 = decide (o.toNat ≥ 128) := by
  have := o.isLt
  rw [BitVec.getLsbD, Nat.testBit_eq_decide_div_mod_eq]
  exact decide_eq_decide.2 (by omega)

/-- The branch's page fix-up gives `PCnext + sext_16(off8)` (R157, R158, R270). -/
theorem wordOf_branch (h l o : Byte) :
    wordOf (if Machine.branchCross l o then (if o.toNat < 0x80 then h + 1 else h - 1) else h) (l + o) =
      Machine.branchTarget (wordOf h l) o := by
  apply BitVec.eq_of_toNat_eq
  have hh := h.isLt
  have hl := l.isLt
  have ho := o.isLt
  have hs : (BitVec.signExtend 16 o).toNat = if o.toNat ≥ 128 then o.toNat + 65280 else o.toNat := by
    simp only [BitVec.toNat_signExtend, BitVec.msb_eq_decide, BitVec.toNat_setWidth]
    split <;> rename_i hm <;> simp at hm <;> split <;> omega
  rw [wordOf_toNat, Machine.branchTarget, Machine.sext16, BitVec.toNat_add (wordOf h l), wordOf_toNat, hs]
  simp only [Machine.branchCross, getLsbD_seven, BitVec.toNat_add]
  by_cases h1 : o.toNat ≥ 128 <;> by_cases h2 : 255 < l.toNat + o.toNat <;>
    by_cases h3 : o.toNat < 128 <;>
    simp [h1, h2, h3, BitVec.toNat_sub, BitVec.toNat_add] <;> omega

end Sys2Proof
end

