-- ==== Sys2Proof/Laws/Run.lean ====
section
/-! SUPPORT. What running a table entry amounts to: the plain composition of its cycle actions, one poll, and OpCodeCycle back at 0. -/

namespace Sys2Proof.Machine

/-- `s` with the latches a poll writes, and OpCodeCycle, as given. -/
def State.withLatches (s : State) (irq nmi edge : Bool) (k : Nat) : State :=
  { s with irqSignal := irq, nmiSignal := nmi, nmiEdgeDetector := edge, opCodeCycle := k }

/-- `s` at the end of an instruction: polled once, and at a boundary. -/
def State.settled (s : State) : State :=
  s.withLatches s.irqLevelDetector (s.nmiSignal || s.nmiEdgeDetector) false 0

/-- An action that neither reads nor writes what a poll and an advance write, and leaves the IRQ line alone. -/
structure LatchBlind (f : State → State) : Prop where
  commutes : ∀ s i n e k, f (s.withLatches i n e k) = (f s).withLatches i n e k
  line : ∀ s, (f s).irqLevelDetector = s.irqLevelDetector

/-- The composition of actions, the first one first. -/
def runActions (fs : List (State → State)) (s : State) : State := fs.foldl (fun s f => f s) s

@[simp] theorem runActions_nil (s : State) : runActions [] s = s := rfl
@[simp] theorem runActions_cons (f : State → State) (fs : List (State → State)) (s : State) :
    runActions (f :: fs) s = runActions fs (f s) := rfl
theorem runActions_append (fs gs : List (State → State)) (s : State) :
    runActions (fs ++ gs) s = runActions gs (runActions fs s) := List.foldl_append ..

@[simp] theorem withLatches_withLatches (s : State) (i n e i' n' e' : Bool) (k k' : Nat) :
    (s.withLatches i n e k).withLatches i' n' e' k' = s.withLatches i' n' e' k' := rfl

theorem withLatches_self (s : State) :
    s.withLatches s.irqSignal s.nmiSignal s.nmiEdgeDetector s.opCodeCycle = s := rfl

/-- An advance without a poll. -/
theorem Entry.advance_quiet (e : Entry) (k : Nat) (s : State) (ended : Bool) (h : e.pollsAt k s ended = false) :
    e.advance k s ended = s.withLatches s.irqSignal s.nmiSignal s.nmiEdgeDetector
      (if ended || k + 1 == e.length then 0 else k + 1) := by
  simp [Entry.advance, h, State.withLatches]

/-- An advance with the poll. -/
theorem Entry.advance_poll (e : Entry) (k : Nat) (s : State) (ended : Bool) (h : e.pollsAt k s ended = true) :
    e.advance k s ended = s.withLatches s.irqLevelDetector (s.nmiSignal || s.nmiEdgeDetector) false
      (if ended || k + 1 == e.length then 0 else k + 1) := by
  simp [Entry.advance, h, State.withLatches, State.poll]

theorem Entry.runFrom_nil (e : Entry) (k : Nat) (s : State) : e.runFrom k [] s = s := rfl

theorem Entry.runFrom_cycle (e : Entry) (k : Nat) (f : State → State) (rest : List MicroOp) (s : State) :
    e.runFrom k (cycle f :: rest) s = e.runFrom (k + 1) rest (e.advance k (f s) false) := rfl

theorem Entry.runFrom_goesOn (e : Entry) (k : Nat) (m : MicroOp) (rest : List MicroOp) (s t : State) (h : m s = (t, false)) :
    e.runFrom k (m :: rest) s = e.runFrom (k + 1) rest (e.advance k t false) := by
  simp [Entry.runFrom, h]

theorem Entry.runFrom_ends (e : Entry) (k : Nat) (m : MicroOp) (rest : List MicroOp) (s t : State) (h : m s = (t, true)) :
    e.runFrom k (m :: rest) s = e.advance k t true := by
  simp [Entry.runFrom, h]

section latchBlind

variable {f : State → State} (h : LatchBlind f) (s : State)
include h

theorem LatchBlind.irqSignal : (f s).irqSignal = s.irqSignal := by
  have := congrArg State.irqSignal (h.commutes s s.irqSignal s.nmiSignal s.nmiEdgeDetector s.opCodeCycle)
  exact this

theorem LatchBlind.nmiSignal : (f s).nmiSignal = s.nmiSignal := by
  have := congrArg State.nmiSignal (h.commutes s s.irqSignal s.nmiSignal s.nmiEdgeDetector s.opCodeCycle)
  exact this

theorem LatchBlind.nmiEdgeDetector : (f s).nmiEdgeDetector = s.nmiEdgeDetector := by
  have := congrArg State.nmiEdgeDetector (h.commutes s s.irqSignal s.nmiSignal s.nmiEdgeDetector s.opCodeCycle)
  exact this

theorem LatchBlind.opCodeCycle : (f s).opCodeCycle = s.opCodeCycle := by
  have := congrArg State.opCodeCycle (h.commutes s s.irqSignal s.nmiSignal s.nmiEdgeDetector s.opCodeCycle)
  exact this

end latchBlind

theorem LatchBlind.runActions {fs : List (State → State)} (h : ∀ f ∈ fs, LatchBlind f) :
    LatchBlind (runActions fs) := by
  induction fs with
  | nil => exact ⟨fun _ _ _ _ _ => rfl, fun _ => rfl⟩
  | cons f fs ih =>
    have hf := h f (List.mem_cons_self ..)
    have ih := ih fun g hg => h g (List.mem_cons_of_mem _ hg)
    exact ⟨fun s i n e k => by simp [hf.commutes, ih.commutes], fun s => by simp [hf.line, ih.line]⟩

theorem LatchBlind.comp {f g : State → State} (hf : LatchBlind f) (hg : LatchBlind g) : LatchBlind fun s => g (f s) :=
  ⟨fun s i n e k => by simp [hf.commutes, hg.commutes], fun s => by simp [hf.line, hg.line]⟩

/-- The latches after an entry has polled, and OpCodeCycle, as arguments of `withLatches`. -/
theorem settled_withLatches (s : State) (i n e : Bool) (k : Nat) :
    (s.withLatches i n e k).settled = s.withLatches s.irqLevelDetector (n || e) false 0 := rfl

theorem fixed_pollsAt (fs : List MicroOp) (k : Nat) (s : State) (b : Bool) :
    ({ polls := .fixed, cycles := fs } : Entry).pollsAt k s b = (k == fs.length - 1) := rfl

/-- The cycles of an entry of fixed length after its poll. -/
theorem Entry.runFrom_fixed_last (cs : List MicroOp) (k : Nat) (f : State → State) (s : State)
    (hk : k = cs.length) (hpos : 0 < k) (hf : LatchBlind f) :
    ({ polls := .fixed, cycles := cs } : Entry).runFrom k [cycle f] s =
      (f s).withLatches s.irqSignal s.nmiSignal s.nmiEdgeDetector 0 := by
  rw [Entry.runFrom_cycle, Entry.runFrom_nil, Entry.advance_quiet _ _ _ _ (by rw [fixed_pollsAt]; simp; omega)]
  simp [Entry.length, hk, hf.irqSignal, hf.nmiSignal, hf.nmiEdgeDetector]

/-- The cycles of an entry of fixed length up to and after its poll. -/
theorem Entry.runFrom_fixed (cs : List MicroOp) : ∀ (fs : List (State → State)) (k : Nat) (s : State),
    2 ≤ fs.length → k + fs.length = cs.length + 1 → 0 < k → (∀ f ∈ fs, LatchBlind f) →
    ({ polls := .fixed, cycles := cs } : Entry).runFrom k (fs.map cycle) s = (Machine.runActions fs s).settled
  | [], _, _, h, _, _, _ => by simp at h
  | [_], _, _, h, _, _, _ => by simp at h
  | [f, g], k, s, _, hk, hpos, hb => by
    have hf : LatchBlind f := hb f (by simp)
    have hg : LatchBlind g := hb g (by simp)
    simp only [List.map_cons, List.map_nil]
    simp only [List.length_cons, List.length_nil] at hk
    rw [Entry.runFrom_cycle, Entry.runFrom_fixed_last _ _ _ _ (by omega) (by omega) hg,
      Entry.advance_poll _ _ _ _ (by rw [fixed_pollsAt]; simp; omega)]
    simp only [hg.commutes, withLatches_withLatches, runActions_cons, runActions_nil, State.settled,
      hg.line, hg.nmiSignal, hg.nmiEdgeDetector]
    rfl
  | f :: g :: g' :: fs, k, s, _, hk, hpos, hb => by
    have hf : LatchBlind f := hb f (by simp)
    have hr : LatchBlind (Machine.runActions (g :: g' :: fs)) :=
      LatchBlind.runActions fun f hf => hb f (List.mem_cons_of_mem _ hf)
    simp only [List.length_cons] at hk
    rw [List.map_cons, Entry.runFrom_cycle,
      Entry.runFrom_fixed cs (g :: g' :: fs) (k + 1) _ (by simp) (by simp only [List.length_cons]; omega) (by omega)
        (fun f hf => hb f (List.mem_cons_of_mem _ hf)),
      Entry.advance_quiet _ _ _ _ (by rw [fixed_pollsAt]; simp; omega), hr.commutes, settled_withLatches,
      runActions_cons _ (g :: g' :: fs)]
    simp only [State.settled, hr.nmiSignal, hr.nmiEdgeDetector]

/-- An entry of fixed length is its actions one after the other, one poll, and the boundary (R131, R137). -/
theorem Entry.run_fixed (fs : List (State → State)) (c0 : State) (hb : ∀ f ∈ fs, LatchBlind f) :
    ({ polls := .fixed, cycles := fs.map cycle } : Entry).run c0 = (Machine.runActions fs c0).settled := by
  match fs, hb with
  | [], _ =>
    show Entry.advance _ 0 c0 false = _
    rw [Entry.advance_poll _ _ _ _ (by rw [fixed_pollsAt]; rfl)]
    rfl
  | [f], hb =>
    have hf : LatchBlind f := hb f (by simp)
    show Entry.runFrom _ 1 [cycle f] _ = _
    rw [Entry.runFrom_fixed_last (List.map cycle [f]) 1 f _ rfl (by decide) hf,
      Entry.advance_poll _ _ _ _ (by rw [fixed_pollsAt]; rfl),
      hf.commutes]
    simp only [runActions_cons, runActions_nil, State.settled, hf.line, hf.nmiSignal, hf.nmiEdgeDetector]
    rfl
  | f :: g :: fs, hb =>
    have hr : LatchBlind (Machine.runActions (f :: g :: fs)) := LatchBlind.runActions hb
    show Entry.runFrom _ 1 ((f :: g :: fs).map cycle) _ = _
    rw [Entry.runFrom_fixed _ _ _ _ (by simp) (by simp; omega) (by decide) hb,
      Entry.advance_quiet _ _ _ _ (by rw [fixed_pollsAt]; simp), hr.commutes, settled_withLatches]
    simp only [State.settled, hr.nmiSignal, hr.nmiEdgeDetector]

/-- An entry that never polls is its actions one after the other, and the boundary (R139). -/
theorem Entry.runFrom_never (cs : List MicroOp) : ∀ (fs : List (State → State)) (k : Nat) (s : State),
    1 ≤ fs.length → k + fs.length = cs.length + 1 → (∀ f ∈ fs, LatchBlind f) →
    ({ polls := .never, cycles := cs } : Entry).runFrom k (fs.map cycle) s =
      { Machine.runActions fs s with opCodeCycle := 0 }
  | [], _, _, h, _, _ => by simp at h
  | [f], k, s, _, hk, hb => by
    simp only [List.length_cons, List.length_nil] at hk
    rw [List.map_cons, List.map_nil, Entry.runFrom_cycle, Entry.runFrom_nil, Entry.advance_quiet _ _ _ _ rfl]
    simp [Entry.length, show k = cs.length by omega, State.withLatches]
  | f :: g :: fs, k, s, _, hk, hb => by
    have hr : LatchBlind (Machine.runActions (g :: fs)) :=
      LatchBlind.runActions fun f hf => hb f (List.mem_cons_of_mem _ hf)
    simp only [List.length_cons] at hk
    rw [List.map_cons, Entry.runFrom_cycle,
      Entry.runFrom_never cs (g :: fs) (k + 1) _ (by simp) (by simp only [List.length_cons]; omega)
        (fun f hf => hb f (List.mem_cons_of_mem _ hf)),
      Entry.advance_quiet _ _ _ _ rfl, hr.commutes, runActions_cons _ (g :: fs)]
    have h1 := hr.irqSignal (f s)
    have h2 := hr.nmiSignal (f s)
    have h3 := hr.nmiEdgeDetector (f s)
    simp only [State.withLatches, ← h1, ← h2, ← h3]

theorem Entry.run_never (f : State → State) (fs : List (State → State)) (c0 : State) (hb : ∀ g ∈ f :: fs, LatchBlind g) :
    ({ polls := .never, cycles := (f :: fs).map cycle } : Entry).run c0 =
      { Machine.runActions (f :: fs) c0 with opCodeCycle := 0 } := by
  have hr : LatchBlind (Machine.runActions (f :: fs)) := LatchBlind.runActions hb
  show Entry.runFrom _ 1 ((f :: fs).map cycle) _ = _
  rw [Entry.runFrom_never _ _ _ _ (by simp) (by simp; omega) hb, Entry.advance_quiet _ _ _ _ rfl, hr.commutes]
  have h1 := hr.irqSignal c0
  have h2 := hr.nmiSignal c0
  have h3 := hr.nmiEdgeDetector c0
  simp only [State.withLatches, ← h1, ← h2, ← h3]

/-- `s` with OpCodeCycle at `k`. -/
def State.atCycle (s : State) (k : Nat) : State := { s with opCodeCycle := k }

theorem atCycle_eq (s : State) (k : Nat) :
    s.atCycle k = s.withLatches s.irqSignal s.nmiSignal s.nmiEdgeDetector k := rfl

theorem LatchBlind.atCycle {f : State → State} (h : LatchBlind f) (s : State) (k : Nat) :
    f (s.atCycle k) = (f s).atCycle k := by
  rw [atCycle_eq, h.commutes, atCycle_eq, h.irqSignal, h.nmiSignal, h.nmiEdgeDetector]

/-- Cycles before the poll point: their actions alone. -/
theorem Entry.runFrom_quiet (e : Entry) (rest : List MicroOp) : ∀ (fs : List (State → State)) (k : Nat) (s : State),
    (∀ j t, k ≤ j → j < k + fs.length → e.pollsAt j t false = false) → k + fs.length < e.length →
    (∀ f ∈ fs, LatchBlind f) →
    e.runFrom k (fs.map cycle ++ rest) (s.atCycle k) =
      e.runFrom (k + fs.length) rest ((Machine.runActions fs s).atCycle (k + fs.length))
  | [], _, _, _, _, _ => rfl
  | f :: fs, k, s, hq, hl, hb => by
    have hf : LatchBlind f := hb f (by simp)
    simp only [List.length_cons] at hq hl
    rw [List.map_cons, List.cons_append, Entry.runFrom_cycle,
      Entry.advance_quiet _ _ _ _ (hq k _ (Nat.le_refl _) (by omega)), hf.atCycle]
    have hk : (k + 1 == e.length) = false := by simp; omega
    simp only [hk, Bool.or_false, Bool.false_eq_true, if_false]
    have h := Entry.runFrom_quiet e rest fs (k + 1) (f s) (fun j t h1 h2 => hq j t (by omega) (by omega)) (by omega)
      (fun g hg => hb g (List.mem_cons_of_mem _ hg))
    rw [List.length_cons, show k + (fs.length + 1) = k + 1 + fs.length by omega]
    exact h

theorem indexed_pollsAt (k₀ : Nat) (i : Index) (cs : List MicroOp) (k : Nat) (s : State) (b : Bool) :
    ({ polls := .indexed k₀ i, cycles := cs } : Entry).pollsAt k s b =
      ((k == k₀ && !s.crossed i) || (k == k₀ + 1 && !b)) := rfl

theorem crossed_withLatches (s : State) (j : Index) (i n e : Bool) (k : Nat) :
    (s.withLatches i n e k).crossed j = s.crossed j := by cases j <;> rfl

/-- An indexed read: `g` adds the index, `m` reads at the uncorrected address and ends the instruction when the addition
carried nothing, `last` reads at the corrected address (R137, R148, R153). -/
theorem Entry.run_indexed (i : Index) (fs : List (State → State)) (g : State → State) (m : MicroOp)
    (last : State → State) (hb : ∀ f ∈ fs, LatchBlind f) (hg : LatchBlind g) (hl : LatchBlind last)
    (c0 p t : State) (ended : Bool) (hp : g (Machine.runActions fs c0) = p)
    (ht : ∀ j n e k, m (p.withLatches j n e k) = (t.withLatches j n e k, ended)) (hc : ended = !p.crossed i)
    (h1 : t.irqLevelDetector = p.irqLevelDetector) (h2 : t.nmiSignal = p.nmiSignal)
    (h3 : t.nmiEdgeDetector = p.nmiEdgeDetector) :
    ({ polls := .indexed (fs.length + 1) i
       cycles := fs.map cycle ++ [cycle g, m, cycle last] } : Entry).run c0 =
      (if ended then t else last t).settled := by
  have h0 : Entry.advance { polls := .indexed (fs.length + 1) i
                            cycles := fs.map cycle ++ [cycle g, m, cycle last] } 0 c0 false = c0.atCycle 1 := by
    rw [Entry.advance_quiet _ _ _ _ (by rw [indexed_pollsAt]; simp)]
    simp [Entry.length, atCycle_eq]
  rw [Entry.run, h0, Entry.runFrom_quiet _ _ _ _ _ (by intro j t h h'; rw [indexed_pollsAt]; simp; omega)
    (by simp [Entry.length]; omega) hb, Entry.runFrom_cycle, hg.atCycle, hp]
  cases ended with
  | true =>
    rw [Entry.advance_poll _ _ _ _ (by rw [indexed_pollsAt, atCycle_eq, crossed_withLatches, ← hc]; simp; omega),
      atCycle_eq, withLatches_withLatches, Entry.runFrom_ends _ _ _ _ _ _ (ht _ _ _ _),
      Entry.advance_quiet _ _ _ _ (by rw [indexed_pollsAt]; simp)]
    simp [State.settled, State.withLatches, h1, h2, h3]
  | false =>
    rw [Entry.advance_quiet _ _ _ _ (by rw [indexed_pollsAt, atCycle_eq, crossed_withLatches, ← hc]; simp; omega),
      atCycle_eq, withLatches_withLatches, Entry.runFrom_goesOn _ _ _ _ _ _ (ht _ _ _ _),
      Entry.advance_poll _ _ _ _ (by rw [indexed_pollsAt]; simp; omega), withLatches_withLatches,
      Entry.runFrom_cycle, Entry.runFrom_nil, hl.commutes,
      Entry.advance_quiet _ _ _ _ (by rw [indexed_pollsAt]; simp; omega), withLatches_withLatches]
    have hn : 1 + fs.length + 1 + 1 + 1 = fs.length + 3 + 1 := by omega
    simp [State.settled, State.withLatches, h1, h2, h3, Entry.length, hl.line, hl.nmiSignal, hl.nmiEdgeDetector, hn]

end Sys2Proof.Machine
end

