-- ==== Sys2Proof/Laws/Sequences.lean ====
section
/-! SUPPORT. Once for each cycle sequence of 40_sequencer.md: the state an instruction of that shape answers, as its operation applied to the state of its last cycle. -/

namespace Sys2Proof.Machine

theorem byte_add_one_one (b : Byte) : b + 1 + 1 = b + 2 := by rw [BitVec.add_assoc]; rfl
theorem byte_add_two_one (b : Byte) : b + 2 + 1 = b + 3 := by rw [BitVec.add_assoc]; rfl

theorem byte_sub_one_one (x : Byte) : x - 1 - 1 = x - 2 := by rw [BitVec.sub_sub]; rfl
theorem byte_sub_three_ones (x : Byte) : x - 1 - 1 - 1 = x - 3 := by rw [BitVec.sub_sub, BitVec.sub_sub]; rfl

/-! A state inside an instruction: its own registers, and what the environment has seen since the instruction began. -/

/-- `t` with the accesses `l` made since the boundary `s`: they are the bus log, the history before them is that of `s`,
and the environment is that of `s` after them. -/
def State.during (t s : State) (l : List BusAccess) : State :=
  { t with platform := s.platform.after l, past := s.history, bus := l }

section during
variable (t s : State) (l : List BusAccess) (q : Addr) (v : Byte)

@[simp] theorem State.during_a : (t.during s l).a = t.a := rfl
@[simp] theorem State.during_x : (t.during s l).x = t.x := rfl
@[simp] theorem State.during_y : (t.during s l).y = t.y := rfl
@[simp] theorem State.during_sp : (t.during s l).sp = t.sp := rfl
@[simp] theorem State.during_pcl : (t.during s l).pcl = t.pcl := rfl
@[simp] theorem State.during_pch : (t.during s l).pch = t.pch := rfl
@[simp] theorem State.during_p : (t.during s l).p = t.p := rfl
@[simp] theorem State.during_al : (t.during s l).al = t.al := rfl
@[simp] theorem State.during_ah : (t.during s l).ah = t.ah := rfl
@[simp] theorem State.during_operand : (t.during s l).operand = t.operand := rfl
@[simp] theorem State.during_opCode : (t.during s l).opCode = t.opCode := rfl
@[simp] theorem State.during_opCodeCycle : (t.during s l).opCodeCycle = t.opCodeCycle := rfl
@[simp] theorem State.during_irqLevelDetector : (t.during s l).irqLevelDetector = t.irqLevelDetector := rfl
@[simp] theorem State.during_irqSignal : (t.during s l).irqSignal = t.irqSignal := rfl
@[simp] theorem State.during_nmiEdgeDetector : (t.during s l).nmiEdgeDetector = t.nmiEdgeDetector := rfl
@[simp] theorem State.during_nmiSignal : (t.during s l).nmiSignal = t.nmiSignal := rfl
@[simp] theorem State.during_decimalEnabled : (t.during s l).decimalEnabled = t.decimalEnabled := rfl
@[simp] theorem State.during_platform : (t.during s l).platform = s.platform.after l := rfl
@[simp] theorem State.during_past : (t.during s l).past = s.history := rfl
@[simp] theorem State.during_bus : (t.during s l).bus = l := rfl
@[simp] theorem State.during_history : (t.during s l).history = s.history ++ l := rfl
@[simp] theorem State.during_pc : (t.during s l).pc = t.pc := rfl
@[simp] theorem State.during_ea : (t.during s l).ea = t.ea := rfl
@[simp] theorem State.during_stackAddr : (t.during s l).stackAddr = t.stackAddr := rfl
@[simp] theorem State.during_flag (g : Flag) : (t.during s l).flag g = t.flag g := rfl
@[simp] theorem State.during_peek : (t.during s l).peek q = s.answer l q := rfl

/-- A read inside an instruction is answered after the accesses before it, and joins them. -/
theorem State.during_logged : (t.during s l).logged (.read q v) = t.during s (l ++ [.read q v]) := by
  rw [State.during, State.during, Platform.after_append]; rfl

theorem State.during_readCycle : (t.during s l).readCycle q = t.during s (s.thenRead l q) := State.during_logged ..

theorem State.during_readStackAndRaise :
    (t.during s l).readStackAndRaise = ({ t with sp := t.sp + 1 } : State).during s (s.thenRead l t.stackAddr) := by
  rw [State.readStackAndRaise, State.during_readCycle]; rfl

/-- A write inside an instruction reaches the environment and joins the accesses. -/
theorem State.during_writeCycle : (t.during s l).writeCycle q v = t.during s (l ++ [.write q v]) := by
  rw [State.during, State.during, Platform.after_append]; rfl

theorem State.during_push :
    (t.during s l).push v = ({ t with sp := t.sp - 1 } : State).during s (l ++ [.write t.stackAddr v]) := by
  rw [State.push, State.during_stackAddr, State.during_writeCycle]; rfl

end during

/-- A boundary state is one with no access made since. -/
theorem State.answer_nil (s : State) (q : Addr) : s.answer [] q = s.peek q := by
  rw [State.answer, List.append_nil]; rfl

theorem State.thenRead_nil (s : State) (q : Addr) : s.thenRead [] q = [.read q (s.peek q)] := by
  rw [State.thenRead, State.answer_nil]; rfl

@[simp] theorem State.thenRead_length (s : State) (l : List BusAccess) (q : Addr) :
    (s.thenRead l q).length = l.length + 1 := List.length_append

theorem State.thenReads_nil (s : State) (l : List BusAccess) : s.thenReads l [] = l := rfl
theorem State.thenReads_cons (s : State) (l : List BusAccess) (q : Addr) (as : List Addr) :
    s.thenReads l (q :: as) = s.thenReads (s.thenRead l q) as := rfl

@[simp] theorem State.thenReads_length (s : State) (l : List BusAccess) (as : List Addr) :
    (s.thenReads l as).length = l.length + as.length := by
  induction as generalizing l with
  | nil => rfl
  | cons a as ih => rw [State.thenReads_cons, ih]; simp; omega

/-- Reads leave the environment's storage. -/
@[simp] theorem Platform.after_thenRead (p : Platform) (s : State) (l : List BusAccess) (q : Addr) :
    p.after (s.thenRead l q) = p.after l := Platform.after_append ..

@[simp] theorem Platform.after_thenReads (p : Platform) (s : State) (l : List BusAccess) (as : List Addr) :
    p.after (s.thenReads l as) = p.after l := by
  induction as generalizing l with
  | nil => rfl
  | cons a as ih => rw [State.thenReads_cons, ih, Platform.after_thenRead]

/-- `s` inside an instruction: opcode `op`, PC moved on by `n`, the scratch registers and the accesses as given, all else
as at the instruction's start. -/
abbrev State.progressed (s : State) (op : Byte) (n : Addr) (al ah operand : Byte) (l : List BusAccess) : State :=
  { s with
    opCode := .op op, pcl := lo8 (s.pc + n), pch := hi8 (s.pc + n)
    al := al, ah := ah, operand := operand }.during s l

section progressed
variable (s : State) (op : Byte) (n : Addr) (al ah operand : Byte) (l : List BusAccess)

theorem State.progressed_pc : (s.progressed op n al ah operand l).pc = s.pc + n := wordOf_hi8_lo8 _

/-- The address formed in AH and AL. -/
theorem State.progressed_ea (w : Addr) : (s.progressed op n (lo8 w) (hi8 w) operand l).ea = w := wordOf_hi8_lo8 w

theorem State.progressed_takeByte (b : Byte) :
    (s.progressed op n al ah operand l).takeByte b =
      s.progressed op (n + 1) al ah operand (l ++ [.read (s.pc + n) b]) := by
  rw [State.takeByte, State.progressed_pc, State.during_logged, State.incPc]
  rw [State.progressed_pc, BitVec.add_assoc]
  rfl

theorem State.progressed_readPc :
    (s.progressed op n al ah operand l).readCycle (s.progressed op n al ah operand l).pc =
      s.progressed op n al ah operand (s.thenRead l (s.pc + n)) := by
  rw [State.progressed_pc, State.during_readCycle]

theorem State.fetchOpcode_eq : s.fetchOpcode op = s.progressed op 1 s.al s.ah s.operand [.read s.pc op] := rfl

end progressed

/-- One action, and the actions after it. -/
theorem runActions_step {f : State → State} {fs : List (State → State)} {s t u : State} (h : f s = t)
    (h' : runActions fs t = u) : runActions (f :: fs) s = u := by rw [runActions_cons, h, h']

/-! What a state settled at the end of an instruction shows. -/

section settled
variable (s : State)
@[simp] theorem State.settled_a : s.settled.a = s.a := rfl
@[simp] theorem State.settled_x : s.settled.x = s.x := rfl
@[simp] theorem State.settled_y : s.settled.y = s.y := rfl
@[simp] theorem State.settled_sp : s.settled.sp = s.sp := rfl
@[simp] theorem State.settled_p : s.settled.p = s.p := rfl
@[simp] theorem State.settled_pc : s.settled.pc = s.pc := rfl
@[simp] theorem State.settled_platform : s.settled.platform = s.platform := rfl
@[simp] theorem State.settled_past : s.settled.past = s.past := rfl
@[simp] theorem State.settled_history : s.settled.history = s.history := rfl
@[simp] theorem State.settled_bus : s.settled.bus = s.bus := rfl
@[simp] theorem State.settled_flag (g : Flag) : s.settled.flag g = s.flag g := rfl
@[simp] theorem State.settled_peek (q : Addr) : s.settled.peek q = s.peek q := rfl
@[simp] theorem State.settled_opCodeCycle : s.settled.opCodeCycle = 0 := rfl
@[simp] theorem State.settled_irqSignal : s.settled.irqSignal = s.irqLevelDetector := rfl
@[simp] theorem State.settled_nmiSignal : s.settled.nmiSignal = (s.nmiSignal || s.nmiEdgeDetector) := rfl
@[simp] theorem State.settled_nmiEdgeDetector : s.settled.nmiEdgeDetector = false := rfl
@[simp] theorem State.settled_irqLevelDetector : s.settled.irqLevelDetector = s.irqLevelDetector := rfl
@[simp] theorem State.settled_decimalEnabled : s.settled.decimalEnabled = s.decimalEnabled := rfl
@[simp] theorem State.settled_al : s.settled.al = s.al := rfl
@[simp] theorem State.settled_ah : s.settled.ah = s.ah := rfl
@[simp] theorem State.settled_operand : s.settled.operand = s.operand := rfl
@[simp] theorem State.settled_opCode : s.settled.opCode = s.opCode := rfl
end settled

/-- A value read from a state that does not depend on what a poll writes. -/
def ValueBlind {α : Type} (w : State → α) : Prop := ∀ s i n e k, w (s.withLatches i n e k) = w s

/-- A read operation that is blind to the latches for every byte. -/
abbrev OpBlind (f : ReadOp) : Prop := ∀ v, LatchBlind (f v)

/-- A modification that is blind to the latches: its result and its effect. -/
structure ModifyBlind (f : Modify) : Prop where
  result : ∀ v, ValueBlind fun s => (f v s).1
  effect : ∀ v, LatchBlind fun s => (f v s).2

/-- The opcode byte of an instruction. -/
abbrev opcodeOf (i : Instr) : Byte := (encode i).headD 0

/-- The address cycles `address` of the instruction `i` of mode `m`, run after its opcode fetch from `s`, leave the
effective address in AH and AL, PC moved on by `n`, Operand at `o`, and the accesses that lead to the operand. -/
def Reaches (i : Instr) (address : List MicroOp) (m : Mode) (s : State) (n : Addr) (o : Byte) : Prop :=
  ∃ fs : List (State → State), address = fs.map cycle ∧ (∀ f ∈ fs, LatchBlind f) ∧
    runActions fs (s.fetchOpcode (opcodeOf i)) =
      s.progressed (opcodeOf i) n (lo8 (m.ea s i)) (hi8 (m.ea s i)) o (m.leads s i)

/-- The state in which an instruction of mode `m` has made the accesses `l`, its address formed. -/
abbrev State.addressed (s : State) (i : Instr) (m : Mode) (n : Addr) (o : Byte) (l : List BusAccess) : State :=
  s.progressed (opcodeOf i) n (lo8 (m.ea s i)) (hi8 (m.ea s i)) o l

theorem State.addressed_ea (s : State) (i : Instr) (m : Mode) (n : Addr) (o : Byte) (l : List BusAccess) :
    (s.addressed i m n o l).ea = m.ea s i := wordOf_hi8_lo8 _

/-- A mode that never crosses a page leads to a read as it leads to a write. -/
theorem Mode.leadsToRead_eq {m : Mode} {s : State} {i : Instr} (h : m.indexed s i = none) :
    m.leadsToRead s i = m.leads s i := by rw [Mode.leadsToRead, Mode.leads, h]

section carried

variable {i : Instr} {address : List MicroOp} {m : Mode} {s : State} {n : Addr} {o : Byte}

theorem Reaches.append (h : Reaches i address m s n o) (gs : List (State → State)) (hg : ∀ g ∈ gs, LatchBlind g) :
    runInstr (opcodeOf i) { polls := .fixed, cycles := address ++ gs.map cycle } s =
      .next (runActions gs (s.addressed i m n o (m.leads s i))).settled := by
  obtain ⟨fs, rfl, hb, hr⟩ := h
  refine congrArg Host.Outcome.next ?_
  rw [← List.map_append, Entry.run_fixed _ _ (by
    intro f hf
    rcases List.mem_append.1 hf with h | h
    · exact hb f h
    · exact hg f h), runActions_append, hr]

theorem blind_readAndApply {f : ReadOp} (hf : OpBlind f) : LatchBlind fun s => f (s.peek s.ea) (s.readCycle s.ea) :=
  ⟨fun s i n e k => (hf (s.peek s.ea)).commutes (s.readCycle s.ea) i n e k,
    fun s => (hf _).line (s.readCycle s.ea)⟩

theorem blind_write {w : State → Byte} (hw : ValueBlind w) : LatchBlind fun s => s.writeCycle s.ea (w s) :=
  ⟨fun s i n e k => by rw [hw]; rfl, fun _ => rfl⟩

/-- A read instruction of fixed length: its operation on the byte at the effective address (R145 to R147, R152). -/
theorem run_readSeq (h : Reaches i address m s n o) (hm : m.indexed s i = none) {f : ReadOp} (hf : OpBlind f) :
    runInstr (opcodeOf i) (readSeq address f) s =
      .next (f (m.fetched s i) (s.addressed i m n o (Source.trace (.mem m) s i))).settled := by
  refine (h.append [fun s => f (s.peek s.ea) (s.readCycle s.ea)] (by simpa using blind_readAndApply hf)).trans ?_
  rw [runActions_cons, runActions_nil, State.addressed_ea, State.during_readCycle, State.during_peek]
  show _ = Host.Outcome.next (f (s.answer (m.leadsToRead s i) _) (s.addressed i m n o (s.thenRead _ _))).settled
  rw [Mode.leadsToRead_eq hm]

/-- A write instruction: its byte at the effective address (R145 to R147, R149, R152, R154). -/
theorem run_writeSeq (h : Reaches i address m s n o) {w : State → Byte} (hw : ValueBlind w) :
    runInstr (opcodeOf i) (writeSeq address w) s =
      .next (s.addressed i m n o
        (m.leads s i ++ [.write (m.ea s i) (w (s.addressed i m n o (m.leads s i)))])).settled := by
  refine (h.append [fun s => s.writeCycle s.ea (w s)] (by simpa using blind_write hw)).trans ?_
  rw [runActions_cons, runActions_nil, State.addressed_ea, State.during_writeCycle]

/-- The accesses of an RMW instruction up to its modification: the byte read, and written back unmodified (R156). -/
def Mode.rmwLeads (m : Mode) (s : State) (i : Instr) : List BusAccess :=
  s.thenRead (m.leads s i) (m.ea s i) ++ [.write (m.ea s i) (m.modified s i)]

/-- The state in which an RMW instruction modifies (R156, after t2). -/
abbrev rmwRead (i : Instr) (m : Mode) (s : State) (n : Addr) : State :=
  s.addressed i m n (m.modified s i) (m.rmwLeads s i)

/-- The last cycle of an RMW instruction: the modified byte `r` into Operand and to `ea` (R156, t3). -/
def State.rmwWritten (p : State) (ea : Addr) (r : Byte) : State := { p with operand := r }.writeCycle ea r

section rmwWritten
variable (p : State) (ea : Addr) (r : Byte) (g : Flag)
@[simp] theorem State.rmwWritten_a : (p.rmwWritten ea r).a = p.a := rfl
@[simp] theorem State.rmwWritten_x : (p.rmwWritten ea r).x = p.x := rfl
@[simp] theorem State.rmwWritten_y : (p.rmwWritten ea r).y = p.y := rfl
@[simp] theorem State.rmwWritten_sp : (p.rmwWritten ea r).sp = p.sp := rfl
@[simp] theorem State.rmwWritten_p : (p.rmwWritten ea r).p = p.p := rfl
@[simp] theorem State.rmwWritten_pc : (p.rmwWritten ea r).pc = p.pc := rfl
@[simp] theorem State.rmwWritten_flag : (p.rmwWritten ea r).flag g = p.flag g := rfl
@[simp] theorem State.rmwWritten_platform : (p.rmwWritten ea r).platform = p.platform.write ea r := rfl
@[simp] theorem State.rmwWritten_past : (p.rmwWritten ea r).past = p.past := rfl
@[simp] theorem State.rmwWritten_bus : (p.rmwWritten ea r).bus = p.bus ++ [.write ea r] := rfl
end rmwWritten

/-- The end of an accumulator instruction: the result `r` into A (R143). -/
def State.withA (p : State) (r : Byte) : State := { p with a := r }

section withA
variable (p : State) (r : Byte) (g : Flag) (q : Addr)
@[simp] theorem State.withA_a : (p.withA r).a = r := rfl
@[simp] theorem State.withA_x : (p.withA r).x = p.x := rfl
@[simp] theorem State.withA_y : (p.withA r).y = p.y := rfl
@[simp] theorem State.withA_sp : (p.withA r).sp = p.sp := rfl
@[simp] theorem State.withA_flag : (p.withA r).flag g = p.flag g := rfl
@[simp] theorem State.withA_peek : (p.withA r).peek q = p.peek q := rfl
end withA

/-- The modifying cycle is blind to the latches. -/
theorem blind_modify {f : Modify} (hf : ModifyBlind f) :
    LatchBlind fun s => ({ (f s.operand s).2 with operand := (f s.operand s).1 }).writeCycle s.ea (f s.operand s).1 := by
  constructor
  · intro s i n e k
    have h1 := hf.result s.operand s i n e k
    have h2 := (hf.effect s.operand).commutes s i n e k
    simp only [] at h1 h2
    show State.writeCycle { (f s.operand (s.withLatches i n e k)).2 with
      operand := (f s.operand (s.withLatches i n e k)).1 } s.ea (f s.operand (s.withLatches i n e k)).1 = _
    rw [h1, h2]
    rfl
  · exact fun s => (hf.effect s.operand).line s

/-- An RMW instruction: the modified byte at the effective address, with the modification's effects (R156). -/
theorem run_rmwSeq (h : Reaches i address m s n o) {f : Modify} (hf : ModifyBlind f) :
    runInstr (opcodeOf i) (rmwSeq address f) s =
      .next ((f (m.modified s i) (rmwRead i m s n)).2.rmwWritten (m.ea s i)
        (f (m.modified s i) (rmwRead i m s n)).1).settled := by
  refine (h.append [fun s => { s.readCycle s.ea with operand := s.peek s.ea }, fun s => s.writeCycle s.ea s.operand,
    fun s => ({ (f s.operand s).2 with operand := (f s.operand s).1 }).writeCycle s.ea (f s.operand s).1] ?_).trans ?_
  · simp only [List.mem_cons, List.not_mem_nil, or_false, forall_eq_or_imp, forall_eq]
    exact ⟨⟨fun _ _ _ _ _ => rfl, fun _ => rfl⟩, ⟨fun _ _ _ _ _ => rfl, fun _ => rfl⟩, blind_modify hf⟩
  · refine congrArg (fun t => Host.Outcome.next (State.settled t)) ?_
    refine runActions_step (t := s.addressed i m n (m.modified s i) (s.thenRead (m.leads s i) (m.ea s i))) ?_
      (runActions_step (t := rmwRead i m s n) ?_ (runActions_step ?_ (runActions_nil _)))
    · simp only [State.addressed_ea, State.during_readCycle, State.during_peek]
      rfl
    · simp only [State.addressed_ea, State.during_writeCycle]
      rfl
    · simp only [State.addressed_ea]
      rfl

end carried

/-! The address cycles of each mode. -/

section address

variable (i : Instr) (b : Byte) (w : Addr) (j : Index) (s : State)

/-- The blindness of the actions that only move bytes between named fields. -/
theorem blind_of_rfl {f : State → State} (h : ∀ s i n e k, f (s.withLatches i n e k) = (f s).withLatches i n e k)
    (h' : ∀ s, (f s).irqLevelDetector = s.irqLevelDetector) : LatchBlind f := ⟨h, h'⟩

theorem blind_index (f : Byte → State → State) (hf : ∀ v, LatchBlind (f v)) :
    LatchBlind fun s => f (j.value s) s := by
  cases j <;> exact ⟨fun s j n e k => (hf _).commutes s j n e k, fun s => (hf _).line s⟩

/-- The index registers stay while an address is formed. -/
theorem Index.value_progressed (op : Byte) (n : Addr) (al ah o : Byte) (l : List BusAccess) :
    j.value (s.progressed op n al ah o l) = j.value s := by cases j <;> rfl

theorem reaches_zp : Reaches i (addrZp (.byte b)) (.zp b) s 2 s.operand := by
  refine ⟨[fun s => { s.takeByte b with al := b, ah := 0x00 }], rfl, ?_, ?_⟩
  · simp only [List.mem_cons, List.not_mem_nil, or_false, forall_eq]
    exact blind_of_rfl (fun _ _ _ _ _ => rfl) fun _ => rfl
  · refine runActions_step ?_ (runActions_nil _)
    simp only [State.fetchOpcode_eq, State.progressed_takeByte, Mode.ea, eaZp, lo8_wordOf, hi8_wordOf]
    rfl

theorem reaches_zpIndexed : Reaches i (addrZpIndexed (.byte b) j) (.zpIndexed j b) s 2 s.operand := by
  refine ⟨[fun s => { s.takeByte b with al := b, ah := 0x00 },
    fun s => { s.readCycle s.ea with al := s.al + j.value s }], rfl, ?_, ?_⟩
  · simp only [List.mem_cons, List.not_mem_nil, or_false, forall_eq_or_imp, forall_eq]
    exact ⟨blind_of_rfl (fun _ _ _ _ _ => rfl) fun _ => rfl,
      blind_index j (fun v s => { s.readCycle s.ea with al := s.al + v })
        fun _ => blind_of_rfl (fun _ _ _ _ _ => rfl) fun _ => rfl⟩
  · refine runActions_step (t := s.progressed (opcodeOf i) 2 b 0x00 s.operand (fetch2 s i b)) ?_
      (runActions_step ?_ (runActions_nil _))
    · simp only [State.fetchOpcode_eq, State.progressed_takeByte]
      rfl
    · simp only [State.during_readCycle, Index.value_progressed, Mode.ea, eaZpIndexed, lo8_wordOf, hi8_wordOf]
      rfl

/-- The two operand bytes fetched, low byte first (R73). -/
theorem fetched_low : { (s.fetchOpcode (opcodeOf i)).takeByte (lo8 w) with al := lo8 w } =
    s.progressed (opcodeOf i) 2 (lo8 w) s.ah s.operand (fetch2 s i (lo8 w)) := by
  simp only [State.fetchOpcode_eq, State.progressed_takeByte]
  rfl

theorem reaches_abs : Reaches i (addrAbs (.word w)) (.abs w) s 3 s.operand := by
  refine ⟨[fun s => { s.takeByte (lo8 w) with al := lo8 w }, fun s => { s.takeByte (hi8 w) with ah := hi8 w }],
    rfl, ?_, ?_⟩
  · simp only [List.mem_cons, List.not_mem_nil, or_false, forall_eq_or_imp, forall_eq]
    exact ⟨blind_of_rfl (fun _ _ _ _ _ => rfl) fun _ => rfl, blind_of_rfl (fun _ _ _ _ _ => rfl) fun _ => rfl⟩
  · refine runActions_step (fetched_low i w s) (runActions_step ?_ (runActions_nil _))
    simp only [State.progressed_takeByte]
    rfl

theorem State.crossed_true (p : State) : (p.crossed j = true) = (p.al.toNat < (j.value p).toNat) := by
  simp [State.crossed]

/-- The corrected address by halves. -/
theorem fixUp_halves (w : Addr) (i : Byte) :
    (if (lo8 w + i).toNat < i.toNat then hi8 w + 1 else hi8 w) = hi8 (w + i.setWidth 16) ∧
      lo8 w + i = lo8 (w + i.setWidth 16) := by
  have h := wordOf_fixUp (hi8 w) (lo8 w) i
  rw [wordOf_hi8_lo8] at h
  rw [← h, hi8_wordOf, lo8_wordOf]
  exact ⟨rfl, rfl⟩

/-- The state that an addition of the index `v` to the low byte of `w` leaves, before the fix-up. -/
abbrev State.unfixedAt (s : State) (i : Instr) (n w : Addr) (v o : Byte) (l : List BusAccess) : State :=
  s.progressed (opcodeOf i) n (lo8 w + v) (hi8 w) o l

theorem State.unfixedAt_crossed (n : Addr) (o : Byte) (l : List BusAccess) :
    (s.unfixedAt i n w (j.value s) o l).crossed j = decide (carries w (j.value s)) := by
  rw [State.crossed, Index.value_progressed]
  exact decide_eq_decide.2 (crossed_iff_carry ..)

/-- The dummy read at the unfixed address, and the fix-up (R149, R154). -/
theorem unfixedAt_fixed (n : Addr) (o : Byte) (l : List BusAccess) :
    (fun p => { p.readCycle p.ea with ah := if p.crossed j then p.ah + 1 else p.ah })
        (s.unfixedAt i n w (j.value s) o l) =
      s.progressed (opcodeOf i) n (lo8 (w + (j.value s).setWidth 16)) (hi8 (w + (j.value s).setWidth 16)) o
        (s.thenRead l (unfixed w (j.value s))) := by
  have h := fixUp_halves w (j.value s)
  rw [← h.1, ← h.2]
  simp only [State.unfixedAt_crossed, State.during_readCycle, crossed_iff_carry, decide_eq_true_eq]
  rfl

/-- The high byte fetched, while the index is added to the low one (R148, c2). -/
theorem fetched_highIndexed :
    (fun s => { s.takeByte (hi8 w) with ah := hi8 w, al := s.al + j.value s })
        (s.progressed (opcodeOf i) 2 (lo8 w) s.ah s.operand (fetch2 s i (lo8 w))) =
      s.unfixedAt i 3 w (j.value s) s.operand (fetch3 s i w) := by
  simp only [State.progressed_takeByte, Index.value_progressed]
  rfl

theorem blind_highIndexed : LatchBlind fun s => { s.takeByte (hi8 w) with ah := hi8 w, al := s.al + j.value s } :=
  blind_index j (fun v s => { s.takeByte (hi8 w) with ah := hi8 w, al := s.al + v })
    fun _ => blind_of_rfl (fun _ _ _ _ _ => rfl) fun _ => rfl

theorem blind_fix : LatchBlind fun p => { p.readCycle p.ea with ah := if p.crossed j then p.ah + 1 else p.ah } := by
  cases j <;> exact blind_of_rfl (fun _ _ _ _ _ => rfl) fun _ => rfl

theorem reaches_absIndexed : Reaches i (addrAbsIndexed (.word w) j) (.absIndexed j w) s 3 s.operand := by
  refine ⟨[fun s => { s.takeByte (lo8 w) with al := lo8 w },
    fun s => { s.takeByte (hi8 w) with ah := hi8 w, al := s.al + j.value s },
    fun p => { p.readCycle p.ea with ah := if p.crossed j then p.ah + 1 else p.ah }], rfl, ?_, ?_⟩
  · simp only [List.mem_cons, List.not_mem_nil, or_false, forall_eq_or_imp, forall_eq]
    exact ⟨blind_of_rfl (fun _ _ _ _ _ => rfl) fun _ => rfl, blind_highIndexed w j, blind_fix j⟩
  · exact runActions_step (fetched_low i w s) (runActions_step (fetched_highIndexed i w j s)
      (runActions_step (unfixedAt_fixed i w j s 3 s.operand _) (runActions_nil _)))

theorem reaches_izx : Reaches i (addrIzx (.byte b)) (.izx b) s 2 (b + s.x) := by
  refine ⟨[fun s => { s.takeByte b with operand := b },
    fun s => { s.readCycle (eaZp s.operand) with operand := s.operand + s.x },
    fun s => { s.readCycle (eaZp s.operand) with al := s.peek (eaZp s.operand) },
    fun s => { s.readCycle (eaZp (s.operand + 1)) with ah := s.peek (eaZp (s.operand + 1)) }], rfl, ?_, ?_⟩
  · simp only [List.mem_cons, List.not_mem_nil, or_false, forall_eq_or_imp, forall_eq]
    exact ⟨blind_of_rfl (fun _ _ _ _ _ => rfl) fun _ => rfl, blind_of_rfl (fun _ _ _ _ _ => rfl) fun _ => rfl,
      blind_of_rfl (fun _ _ _ _ _ => rfl) fun _ => rfl, blind_of_rfl (fun _ _ _ _ _ => rfl) fun _ => rfl⟩
  · let l := s.thenRead (fetch2 s i b) (eaZp b)
    refine runActions_step (t := s.progressed (opcodeOf i) 2 s.al s.ah b (fetch2 s i b)) ?_
      (runActions_step (t := s.progressed (opcodeOf i) 2 s.al s.ah (b + s.x) l) ?_
        (runActions_step (t := s.progressed (opcodeOf i) 2 (s.answer l (eaZp (b + s.x))) s.ah (b + s.x)
          (s.thenRead l (eaZp (b + s.x)))) ?_ (runActions_step ?_ (runActions_nil _))))
    · simp only [State.fetchOpcode_eq, State.progressed_takeByte]
      rfl
    · simp only [State.during_readCycle]
      rfl
    · simp only [State.during_readCycle]
      rfl
    · simp only [State.during_readCycle, Mode.ea, State.pointer, lo8_wordOf, hi8_wordOf]
      rfl

/-- The actions of `(zp),Y` up to the addition of Y to the pointer's low byte (R153, c1 to c3). -/
abbrev izyActions : List (State → State) :=
  [fun s => { s.takeByte b with operand := b },
    fun s => { s.readCycle (eaZp s.operand) with al := s.peek (eaZp s.operand) },
    fun s => { s.readCycle (eaZp (s.operand + 1)) with ah := s.peek (eaZp (s.operand + 1)), al := s.al + s.y }]

theorem izyActions_blind : ∀ f ∈ izyActions b, LatchBlind f := by
  simp only [List.mem_cons, List.not_mem_nil, or_false, forall_eq_or_imp, forall_eq]
  exact ⟨blind_of_rfl (fun _ _ _ _ _ => rfl) fun _ => rfl, blind_of_rfl (fun _ _ _ _ _ => rfl) fun _ => rfl,
    blind_of_rfl (fun _ _ _ _ _ => rfl) fun _ => rfl⟩

theorem izyActions_run :
    runActions (izyActions b) (s.fetchOpcode (opcodeOf i)) =
      s.unfixedAt i 2 (s.pointer (fetch2 s i b) b) s.y b (s.readPointer (fetch2 s i b) b) := by
  refine runActions_step (t := s.progressed (opcodeOf i) 2 s.al s.ah b (fetch2 s i b)) ?_
    (runActions_step (t := s.progressed (opcodeOf i) 2 (s.answer (fetch2 s i b) (eaZp b)) s.ah b
      (s.thenRead (fetch2 s i b) (eaZp b))) ?_ (runActions_step ?_ (runActions_nil _)))
  · simp only [State.fetchOpcode_eq, State.progressed_takeByte]
    rfl
  · simp only [State.during_readCycle]
    rfl
  · simp only [State.during_readCycle, State.unfixedAt, State.pointer, lo8_wordOf, hi8_wordOf]
    rfl

theorem reaches_izy : Reaches i (addrIzy (.byte b)) (.izy b) s 2 b := by
  refine ⟨izyActions b ++ [fun p => { p.readCycle p.ea with ah := if p.crossed .y then p.ah + 1 else p.ah }], rfl, ?_, ?_⟩
  · exact List.forall_mem_append.2 ⟨izyActions_blind b, by simpa using blind_fix .y⟩
  · rw [runActions_append, izyActions_run]
    exact runActions_step (unfixedAt_fixed i (s.pointer (fetch2 s i b) b) .y s 2 b _) (runActions_nil _)

end address

/-! The sequences that are not built from address cycles of R145 to R156. -/

section sequences

variable (i : Instr) (b : Byte) (w : Addr) (j : Index) (s : State)

/-- The state after the opcode fetch and the dummy read of c1 (R142), with `n` bytes passed. -/
abbrev State.implied (s : State) (i : Instr) (n : Addr := 1) : State :=
  s.progressed (opcodeOf i) n s.al s.ah s.operand (fetchImplied s i)

theorem implied_eq : (s.fetchOpcode (opcodeOf i)).readCycle (s.fetchOpcode (opcodeOf i)).pc = s.implied i := by
  simp only [State.fetchOpcode_eq, State.progressed_readPc]

/-- An implied instruction (R142). -/
theorem run_implied {g : State → State} (hg : LatchBlind g) :
    runInstr (opcodeOf i) (impliedSeq g) s = .next (g (s.implied i)).settled := by
  refine congrArg Host.Outcome.next ((Entry.run_fixed [fun s => g (s.readCycle s.pc)] _ ?_).trans ?_)
  · simp only [List.mem_cons, List.not_mem_nil, or_false, forall_eq]
    exact ⟨fun s i n e k => hg.commutes (s.readCycle s.pc) i n e k, fun s => hg.line (s.readCycle s.pc)⟩
  · rw [runActions_cons, runActions_nil, implied_eq]

/-- An accumulator instruction (R143). -/
theorem run_accumulator {f : Modify} (hf : ModifyBlind f) :
    runInstr (opcodeOf i) (accumulatorSeq f) s =
      .next ((f s.a (s.implied i)).2.withA (f s.a (s.implied i)).1).settled := by
  refine run_implied i s (g := fun s => { (f s.a s).2 with a := (f s.a s).1 }) ⟨fun s i n e k => ?_, fun s => ?_⟩
  · have h1 := hf.result s.a s i n e k
    have h2 := (hf.effect s.a).commutes s i n e k
    simp only [] at h1 h2
    show { (f s.a (s.withLatches i n e k)).2 with a := (f s.a (s.withLatches i n e k)).1 } = _
    rw [h1, h2]
    rfl
  · exact (hf.effect s.a).line s

/-- An immediate instruction (R144). -/
theorem run_immediate {f : ReadOp} (hf : OpBlind f) :
    runInstr (opcodeOf i) (immediateSeq (.byte b) f) s =
      .next (f b (s.progressed (opcodeOf i) 2 s.al s.ah s.operand (fetch2 s i b))).settled := by
  refine congrArg Host.Outcome.next ((Entry.run_fixed [fun s => f b (s.takeByte b)] _ ?_).trans ?_)
  · simp only [List.mem_cons, List.not_mem_nil, or_false, forall_eq]
    exact ⟨fun s i n e k => (hf b).commutes (s.takeByte b) i n e k, fun s => (hf b).line (s.takeByte b)⟩
  · rw [runActions_cons, runActions_nil, State.fetchOpcode_eq, State.progressed_takeByte]
    rfl

/-- The read at the unfixed address commutes with the latches. -/
theorem readUncorrected_withLatches {f : ReadOp} (hf : OpBlind f) (p : State) (jr n e : Bool) (k : Nat) :
    readUncorrected j f (p.withLatches jr n e k) =
      ((if p.crossed j then { p.readCycle p.ea with ah := p.ah + 1 } else f (p.peek p.ea) (p.readCycle p.ea)).withLatches
        jr n e k, !p.crossed j) := by
  rw [readUncorrected, crossed_withLatches]
  cases p.crossed j with
  | true => rfl
  | false => exact congrArg (·, true) ((hf _).commutes (p.readCycle p.ea) jr n e k)

/-- An indexed read, from the state that its addition leaves: the operation on the byte at the corrected address, read at
the unfixed address before it when the addition carries (R148, R153). -/
theorem run_indexed {f : ReadOp} (hf : OpBlind f) (fs : List (State → State)) (g : State → State)
    (hb : ∀ f ∈ fs, LatchBlind f) (hg : LatchBlind g) (n : Addr) (o : Byte) (l : List BusAccess)
    (hp : g (runActions fs (s.fetchOpcode (opcodeOf i))) = s.unfixedAt i n w (j.value s) o l) :
    let ea := w + (j.value s).setWidth 16
    let l' := if carries w (j.value s) then s.thenRead l (unfixed w (j.value s)) else l
    runInstr (opcodeOf i) { polls := .indexed (fs.length + 1) j,
                            cycles := fs.map cycle ++ [cycle g, readUncorrected j f, readAndApply f] } s =
      .next (f (s.answer l' ea) (s.progressed (opcodeOf i) n (lo8 ea) (hi8 ea) o (s.thenRead l' ea))).settled := by
  intro ea l'
  let p := s.unfixedAt i n w (j.value s) o l
  refine congrArg Host.Outcome.next ((Entry.run_indexed j fs g (readUncorrected j f) _ hb hg (blind_readAndApply hf)
    (s.fetchOpcode (opcodeOf i)) p _ _ hp (readUncorrected_withLatches j hf p) rfl ?_ ?_ ?_).trans ?_)
  · split
    · rfl
    · exact (hf _).line (p.readCycle p.ea)
  · split
    · rfl
    · exact (hf _).nmiSignal (p.readCycle p.ea)
  · split
    · rfl
    · exact (hf _).nmiEdgeDetector (p.readCycle p.ea)
  · have hc : p.crossed j = decide (carries w (j.value s)) := State.unfixedAt_crossed ..
    have hx := unfixedAt_fixed i w j s n o l
    have hw := fixUp_halves w (j.value s)
    by_cases h : carries w (j.value s)
    · have hx' : { p.readCycle p.ea with ah := p.ah + 1 } =
          s.progressed (opcodeOf i) n (lo8 ea) (hi8 ea) o (s.thenRead l (unfixed w (j.value s))) := by
        rw [← hx]
        show _ = { p.readCycle p.ea with ah := if p.crossed j then p.ah + 1 else p.ah }
        rw [hc, decide_eq_true h, if_pos rfl]
      rw [hc, decide_eq_true h, if_pos rfl, hx']
      simp only [l', if_pos h, Bool.not_true, Bool.false_eq_true, if_false]
      rw [State.progressed_ea, State.during_readCycle, State.during_peek]
    · have he : p.ea = ea := by
        show wordOf (hi8 w) (lo8 w + j.value s) = ea
        have h1 := hw.1
        rw [if_neg (fun hh => h ((crossed_iff_carry ..).1 hh))] at h1
        rw [h1, hw.2, wordOf_hi8_lo8]
      rw [hc, decide_eq_false h, if_neg Bool.false_ne_true, he]
      simp only [l', if_neg h, Bool.not_false, if_true]
      rw [State.during_readCycle, State.during_peek]
      show (f (s.answer l ea) (s.progressed (opcodeOf i) n (lo8 w + j.value s) (hi8 w) o (s.thenRead l ea))).settled = _
      have h1 := hw.1
      rw [if_neg (fun hh => h ((crossed_iff_carry ..).1 hh))] at h1
      rw [h1, hw.2]

/-- An absolute indexed read (R148). -/
theorem run_readAbsIndexed {f : ReadOp} (hf : OpBlind f) :
    runInstr (opcodeOf i) (readAbsIndexedSeq (.word w) j f) s =
      .next (f ((Mode.absIndexed j w).fetched s i)
        (s.addressed i (.absIndexed j w) 3 s.operand (Source.trace (.mem (.absIndexed j w)) s i))).settled :=
  run_indexed i w j s hf [fun s => { s.takeByte (lo8 w) with al := lo8 w }]
    (fun s => { s.takeByte (hi8 w) with ah := hi8 w, al := s.al + j.value s })
    (by
      simp only [List.mem_cons, List.not_mem_nil, or_false, forall_eq]
      exact blind_of_rfl (fun _ _ _ _ _ => rfl) fun _ => rfl)
    (blind_highIndexed w j) 3 s.operand (fetch3 s i w)
    ((congrArg (fun s => { s.takeByte (hi8 w) with ah := hi8 w, al := s.al + j.value s }) (fetched_low i w s)).trans
      (fetched_highIndexed i w j s))

/-- An indirect indexed read (R153). -/
theorem run_readIzy {f : ReadOp} (hf : OpBlind f) :
    runInstr (opcodeOf i) (readIzySeq (.byte b) f) s =
      .next (f ((Mode.izy b).fetched s i)
        (s.addressed i (.izy b) 2 b (Source.trace (.mem (.izy b)) s i))).settled :=
  run_indexed i (s.pointer (fetch2 s i b) b) .y s hf
    [fun s => { s.takeByte b with operand := b },
      fun s => { s.readCycle (eaZp s.operand) with al := s.peek (eaZp s.operand) }]
    (fun s => { s.readCycle (eaZp (s.operand + 1)) with ah := s.peek (eaZp (s.operand + 1)), al := s.al + s.y })
    (fun f hf => izyActions_blind b f (by
      simp only [List.mem_cons, List.not_mem_nil, or_false] at hf ⊢
      rcases hf with h | h
      · exact .inl h
      · exact .inr (.inl h)))
    (izyActions_blind b _ (by simp only [List.mem_cons, true_or, or_true])) 2 b _ (izyActions_run i b s)

/-- Where a branch leaves PC (R270). -/
def branchEnd (on : Flag) (v : Bool) : Addr :=
  if s.flag on = v then branchTarget (s.pc + 2) b else s.pc + 2

/-- The dummy reads of a branch (R157): the next opcode when it is taken, and the unfixed address when it also crosses. -/
def branchReads (on : Flag) (v : Bool) : List Addr :=
  if s.flag on = v then
    if branchCross (lo8 (s.pc + 2)) b then [s.pc + 2, wordOf (hi8 (s.pc + 2)) (lo8 (s.pc + 2) + b)] else [s.pc + 2]
  else []

theorem branch_pollsAt (f : Fetch) (on : Flag) (v : Bool) (s : State) (ended : Bool) :
    (branchSeq f on v).pollsAt 0 s ended = (s.flag on != v) ∧
    (branchSeq f on v).pollsAt 1 s ended = (!ended && !branchCross s.pcl s.operand) ∧
    (branchSeq f on v).pollsAt 2 s ended = !ended ∧
    (branchSeq f on v).pollsAt 3 s ended = false := ⟨rfl, rfl, rfl, rfl⟩

/-- The state after a branch's offset fetch (R157, c1). -/
abbrev State.offsetTaken (s : State) (i : Instr) (b : Byte) : State :=
  s.progressed (opcodeOf i) 2 s.al s.ah b (fetch2 s i b)

/-- The state after a taken branch's addition to PCL (R157, c2). -/
abbrev State.pclAdded (s : State) (i : Instr) (b : Byte) : State :=
  ({ s.offsetTaken i b with pcl := lo8 (s.pc + 2) + b } : State).during s (s.thenRead (fetch2 s i b) (s.pc + 2))

theorem branch_c1 (on : Flag) (v : Bool) (jr n e : Bool) (k : Nat) :
    (fun s => ({ State.takeByte s b with operand := b }, s.flag on != v) : MicroOp)
      ((s.fetchOpcode (opcodeOf i)).withLatches jr n e k) =
        ((s.offsetTaken i b).withLatches jr n e k, s.flag on != v) := by
  show (State.withLatches { State.takeByte (s.fetchOpcode (opcodeOf i)) b with operand := b } jr n e k, _) = _
  simp only [State.fetchOpcode_eq, State.progressed_takeByte]
  rfl

theorem branch_c2 (jr n e : Bool) (k : Nat) :
    (fun s => ({ State.readCycle s s.pc with pcl := s.pcl + s.operand }, !branchCross s.pcl s.operand) : MicroOp)
      ((s.offsetTaken i b).withLatches jr n e k) =
        ((s.pclAdded i b).withLatches jr n e k, !branchCross (lo8 (s.pc + 2)) b) := by
  show (State.withLatches { (s.offsetTaken i b).readCycle (s.offsetTaken i b).pc with
    pcl := (s.offsetTaken i b).pcl + b } jr n e k, _) = _
  rw [State.progressed_readPc]
  rfl

/-- A conditional branch (R157, R270): PC at the target or at the next instruction, nothing else. -/
theorem run_branch (on : Flag) (v : Bool) :
    runInstr (opcodeOf i) (branchSeq (.byte b) on v) s =
      .next ((s.progressed (opcodeOf i) 2 s.al s.ah b
        (s.thenReads (fetch2 s i b) (branchReads b s on v))).setPc (branchEnd b s on v)).settled := by
  refine congrArg Host.Outcome.next ?_
  have hw := wordOf_branch (hi8 (s.pc + 2)) (lo8 (s.pc + 2)) b
  rw [wordOf_hi8_lo8] at hw
  have hh := (congrArg hi8 hw).symm
  have hl := (congrArg lo8 hw).symm
  rw [hi8_wordOf] at hh
  rw [lo8_wordOf] at hl
  have h1 := branch_c1 i b s on v
  have h2 := branch_c2 i b s
  rw [Entry.run]
  by_cases ht : s.flag on = v
  · have hb : (s.flag on != v) = false := by simp [ht]
    rw [Entry.advance_quiet _ 0 (s.fetchOpcode (opcodeOf i)) false
      ((branch_pollsAt (.byte b) on v (s.fetchOpcode (opcodeOf i)) false).1.trans hb)]
    rw [hb] at h1
    refine (Entry.runFrom_goesOn _ 1 _ _ _ _ (h1 _ _ _ _)).trans ?_
    by_cases hx : branchCross (lo8 (s.pc + 2)) b = true
    · rw [Entry.advance_quiet _ _ _ _ ((branch_pollsAt (.byte b) on v _ _).2.1.trans (by
        show (!false && !branchCross (lo8 (s.pc + 2)) b) = false
        rw [hx]; rfl)), withLatches_withLatches]
      rw [hx] at h2
      refine (Entry.runFrom_goesOn _ 2 _ _ _ _ (h2 _ _ _ _)).trans ?_
      rw [Entry.advance_poll _ _ _ _ (branch_pollsAt (.byte b) on v _ _).2.2.1, withLatches_withLatches, Entry.runFrom_cycle,
        Entry.runFrom_nil, Entry.advance_quiet _ _ _ _ (branch_pollsAt (.byte b) on v _ _).2.2.2]
      rw [if_pos hx] at hh
      simp only [branchEnd, branchReads, ht, hx, if_true, hh, hl, State.settled, State.setPc, State.thenReads_cons,
        State.thenReads_nil]
      show State.withLatches { (s.pclAdded i b).readCycle (s.pclAdded i b).pc with pch := _ } .. = _
      rw [State.during_readCycle]
      rfl
    · have hx : branchCross (lo8 (s.pc + 2)) b = false := by simpa using hx
      rw [Entry.advance_poll _ _ _ _ ((branch_pollsAt (.byte b) on v _ _).2.1.trans (by
        show (!false && !branchCross (lo8 (s.pc + 2)) b) = true
        rw [hx]; rfl)), withLatches_withLatches]
      rw [hx] at h2 hh
      refine (Entry.runFrom_ends _ 2 _ _ _ _ (h2 _ _ _ _)).trans ?_
      rw [Entry.advance_quiet _ _ _ _ (branch_pollsAt (.byte b) on v _ _).2.2.1, withLatches_withLatches]
      simp only [branchEnd, branchReads, ht, hx, if_true, Bool.false_eq_true, if_false, hh, hl, State.settled,
        State.setPc, State.thenReads_cons, State.thenReads_nil]
      rfl
  · have hb : (s.flag on != v) = true := by simp [ht]
    rw [Entry.advance_poll _ 0 (s.fetchOpcode (opcodeOf i)) false
      ((branch_pollsAt (.byte b) on v (s.fetchOpcode (opcodeOf i)) false).1.trans hb)]
    rw [hb] at h1
    refine (Entry.runFrom_ends _ 1 _ _ _ _ (h1 _ _ _ _)).trans ?_
    rw [Entry.advance_quiet _ _ _ _ ((branch_pollsAt (.byte b) on v _ _).2.1.trans rfl)]
    simp only [branchEnd, branchReads, ht, if_false, State.settled, State.setPc, State.thenReads_nil]
    rfl

/-- JMP absolute (R159). -/
theorem run_jmpAbs :
    runInstr (opcodeOf i) (jmpAbsSeq (.word w)) s =
      .next ((s.progressed (opcodeOf i) 3 (lo8 w) s.ah s.operand (fetch3 s i w)).setPc w).settled := by
  refine congrArg Host.Outcome.next ((Entry.run_fixed [fun s => { s.takeByte (lo8 w) with al := lo8 w },
    fun s => { s.logged (.read s.pc (hi8 w)) with pcl := s.al, pch := hi8 w }] _ ?_).trans (congrArg State.settled ?_))
  · simp only [List.mem_cons, List.not_mem_nil, or_false, forall_eq_or_imp, forall_eq]
    exact ⟨blind_of_rfl (fun _ _ _ _ _ => rfl) fun _ => rfl, blind_of_rfl (fun _ _ _ _ _ => rfl) fun _ => rfl⟩
  · refine runActions_step (fetched_low i w s) (runActions_step ?_ (runActions_nil _))
    rw [State.progressed_pc, State.during_logged]
    rfl

/-- JMP indirect (R160): the pointer's high byte does not carry. -/
theorem run_jmpIndirect :
    runInstr (opcodeOf i) (jmpIndirectSeq (.word w)) s =
      .next ((s.progressed (opcodeOf i) 3 (lo8 w) (hi8 w) (s.answer (fetch3 s i w) w)
        (s.thenReads (fetch3 s i w) [w, wordOf (hi8 w) (lo8 w + 1)])).setPc
          (wordOf (s.answer (s.thenRead (fetch3 s i w) w) (wordOf (hi8 w) (lo8 w + 1)))
            (s.answer (fetch3 s i w) w))).settled := by
  refine congrArg Host.Outcome.next ((Entry.run_fixed [fun s => { s.takeByte (lo8 w) with al := lo8 w },
    fun s => { s.takeByte (hi8 w) with ah := hi8 w },
    fun s => { s.readCycle s.ea with operand := s.peek s.ea },
    fun s => { s.readCycle (wordOf s.ah (s.al + 1)) with
          pcl := s.operand, pch := s.peek (wordOf s.ah (s.al + 1)) }] _ ?_).trans (congrArg State.settled ?_))
  · simp only [List.mem_cons, List.not_mem_nil, or_false, forall_eq_or_imp, forall_eq]
    exact ⟨blind_of_rfl (fun _ _ _ _ _ => rfl) fun _ => rfl, blind_of_rfl (fun _ _ _ _ _ => rfl) fun _ => rfl,
      blind_of_rfl (fun _ _ _ _ _ => rfl) fun _ => rfl, blind_of_rfl (fun _ _ _ _ _ => rfl) fun _ => rfl⟩
  · refine runActions_step (fetched_low i w s) (runActions_step
      (t := s.progressed (opcodeOf i) 3 (lo8 w) (hi8 w) s.operand (fetch3 s i w)) ?_ (runActions_step
      (t := s.progressed (opcodeOf i) 3 (lo8 w) (hi8 w) (s.answer (fetch3 s i w) w) (s.thenRead (fetch3 s i w) w)) ?_
        (runActions_step ?_ (runActions_nil _))))
    · simp only [State.progressed_takeByte]
      rfl
    · rw [State.progressed_ea, State.during_readCycle]
      rfl
    · simp only [State.during_readCycle, State.setPc, lo8_wordOf, hi8_wordOf]
      rfl

/-- The accesses of a JSR up to its last (R161): the low operand byte, a read of the stack, and the pushes of the address
of its last byte. -/
def jsrLeads (s : State) (i : Instr) (w : Addr) : List BusAccess :=
  s.thenRead (fetch2 s i (lo8 w)) (wordOf 0x01 s.sp) ++
    [.write (wordOf 0x01 s.sp) (hi8 (s.pc + 2)), .write (wordOf 0x01 (s.sp - 1)) (lo8 (s.pc + 2))]

/-- JSR (R161, R281): PC from the operand's low byte and the byte at PC after the pushes. -/
theorem run_jsr :
    runInstr (opcodeOf i) (jsrSeq (.word w)) s =
      .next (({ s.progressed (opcodeOf i) 2 (lo8 w) s.ah s.operand (s.thenRead (jsrLeads s i w) (s.pc + 2)) with
          sp := s.sp - 2 }).setPc (wordOf (s.answer (jsrLeads s i w) (s.pc + 2)) (lo8 w))).settled := by
  refine congrArg Host.Outcome.next ((Entry.run_fixed [fun s => { s.takeByte (lo8 w) with al := lo8 w },
      fun s => s.readCycle s.stackAddr, fun s => s.push s.pch, fun s => s.push s.pcl,
      fun s => { s.readCycle s.pc with pcl := s.al, pch := s.peek s.pc }] _ ?_).trans (congrArg State.settled ?_))
  · simp only [List.mem_cons, List.not_mem_nil, or_false, forall_eq_or_imp, forall_eq]
    exact ⟨blind_of_rfl (fun _ _ _ _ _ => rfl) fun _ => rfl, blind_of_rfl (fun _ _ _ _ _ => rfl) fun _ => rfl,
      blind_of_rfl (fun _ _ _ _ _ => rfl) fun _ => rfl, blind_of_rfl (fun _ _ _ _ _ => rfl) fun _ => rfl,
      blind_of_rfl (fun _ _ _ _ _ => rfl) fun _ => rfl⟩
  · let p (sp : Byte) : State := { s.progressed (opcodeOf i) 2 (lo8 w) s.ah s.operand [] with sp := sp }
    let l := s.thenRead (fetch2 s i (lo8 w)) (wordOf 0x01 s.sp)
    have hp (sp : Byte) (l : List BusAccess) : ((p sp).during s l).pc = s.pc + 2 := wordOf_hi8_lo8 _
    refine runActions_step (fetched_low i w s) (runActions_step (t := (p s.sp).during s l) (State.during_readCycle ..)
      (runActions_step (t := (p (s.sp - 1)).during s (l ++ [.write (wordOf 0x01 s.sp) (hi8 (s.pc + 2))]))
        (State.during_push ..) (runActions_step (t := (p (s.sp - 2)).during s (jsrLeads s i w)) ?_
          (runActions_step ?_ (runActions_nil _)))))
    · refine (State.during_push ..).trans ?_
      show State.during { p (s.sp - 1) with sp := s.sp - 1 - 1 } _ _ = _
      rw [byte_sub_one_one, List.append_assoc]
      rfl
    · rw [hp, State.during_readCycle, State.setPc, lo8_wordOf, hi8_wordOf]
      rfl

/-- RTS (R162): PC one past the address pulled, S up by two. -/
theorem run_rts :
    let l := s.thenRead (fetchImplied s i) (wordOf 0x01 s.sp)
    let pulled := wordOf (s.answer (s.thenRead l (wordOf 0x01 (s.sp + 1))) (wordOf 0x01 (s.sp + 2)))
      (s.answer l (wordOf 0x01 (s.sp + 1)))
    runInstr (opcodeOf i) rtsSeq s =
      .next ({ s.progressed (opcodeOf i) 1 s.al s.ah s.operand
          (s.thenReads l [wordOf 0x01 (s.sp + 1), wordOf 0x01 (s.sp + 2), pulled]) with
            sp := s.sp + 2 }.setPc (pulled + 1)).settled := by
  intro l pulled
  refine congrArg Host.Outcome.next ((Entry.run_fixed [fun s => s.readCycle s.pc, fun s => s.readStackAndRaise,
      fun s => { s.readStackAndRaise with pcl := s.peek s.stackAddr },
      fun s => { s.readCycle s.stackAddr with pch := s.peek s.stackAddr },
      fun s => (s.readCycle s.pc).incPc] _ ?_).trans (congrArg State.settled ?_))
  · simp only [List.mem_cons, List.not_mem_nil, or_false, forall_eq_or_imp, forall_eq]
    exact ⟨blind_of_rfl (fun _ _ _ _ _ => rfl) fun _ => rfl, blind_of_rfl (fun _ _ _ _ _ => rfl) fun _ => rfl,
      blind_of_rfl (fun _ _ _ _ _ => rfl) fun _ => rfl, blind_of_rfl (fun _ _ _ _ _ => rfl) fun _ => rfl,
      blind_of_rfl (fun _ _ _ _ _ => rfl) fun _ => rfl⟩
  · let p (sp pcl pch : Byte) : State := { s.implied i with sp := sp, pcl := pcl, pch := pch }
    let low := s.answer l (wordOf 0x01 (s.sp + 1))
    let l1 := s.thenRead l (wordOf 0x01 (s.sp + 1))
    let high := s.answer l1 (wordOf 0x01 (s.sp + 2))
    let l2 := s.thenRead l1 (wordOf 0x01 (s.sp + 2))
    refine runActions_step (implied_eq i s) (runActions_step
      (t := (p (s.sp + 1) (lo8 (s.pc + 1)) (hi8 (s.pc + 1))).during s l) (State.during_readStackAndRaise ..)
      (runActions_step (t := (p (s.sp + 2) low (hi8 (s.pc + 1))).during s l1) ?_
        (runActions_step (t := (p (s.sp + 2) low high).during s l2) ?_ (runActions_step ?_ (runActions_nil _)))))
    · rw [State.during_readStackAndRaise, ← byte_add_one_one]
      rfl
    · rw [State.during_readCycle]
      rfl
    · have hp : ((p (s.sp + 2) low high).during s l2).pc = pulled := rfl
      rw [hp, State.during_readCycle]
      rfl

/-- RTI (R163, R283): P, PCL and PCH pulled, S up by three. -/
theorem run_rti :
    let l := s.thenRead (fetchImplied s i) (wordOf 0x01 s.sp)
    let l1 := s.thenRead l (wordOf 0x01 (s.sp + 1))
    let l2 := s.thenRead l1 (wordOf 0x01 (s.sp + 2))
    runInstr (opcodeOf i) rtiSeq s =
      .next (({ s.progressed (opcodeOf i) 1 s.al s.ah s.operand (s.thenRead l2 (wordOf 0x01 (s.sp + 3))) with
          sp := s.sp + 3 }.setStatus (s.answer l (wordOf 0x01 (s.sp + 1)))).setPc
            (wordOf (s.answer l2 (wordOf 0x01 (s.sp + 3))) (s.answer l1 (wordOf 0x01 (s.sp + 2))))).settled := by
  intro l l1 l2
  refine congrArg Host.Outcome.next ((Entry.run_fixed [fun s => s.readCycle s.pc, fun s => s.readStackAndRaise,
      fun s => (s.readStackAndRaise).setStatus (s.peek s.stackAddr),
      fun s => { s.readStackAndRaise with pcl := s.peek s.stackAddr },
      fun s => { s.readCycle s.stackAddr with pch := s.peek s.stackAddr }] _ ?_).trans (congrArg State.settled ?_))
  · simp only [List.mem_cons, List.not_mem_nil, or_false, forall_eq_or_imp, forall_eq]
    exact ⟨blind_of_rfl (fun _ _ _ _ _ => rfl) fun _ => rfl, blind_of_rfl (fun _ _ _ _ _ => rfl) fun _ => rfl,
      blind_of_rfl (fun _ _ _ _ _ => rfl) fun _ => rfl, blind_of_rfl (fun _ _ _ _ _ => rfl) fun _ => rfl,
      blind_of_rfl (fun _ _ _ _ _ => rfl) fun _ => rfl⟩
  · let p (sp st pcl : Byte) : State := { s.implied i with sp := sp, p := st, pcl := pcl }
    let status := s.answer l (wordOf 0x01 (s.sp + 1)) ||| 0x20
    let low := s.answer l1 (wordOf 0x01 (s.sp + 2))
    refine runActions_step (implied_eq i s) (runActions_step (t := (p (s.sp + 1) s.p (lo8 (s.pc + 1))).during s l)
      (State.during_readStackAndRaise ..) (runActions_step
        (t := (p (s.sp + 2) status (lo8 (s.pc + 1))).during s l1) ?_ (runActions_step
          (t := (p (s.sp + 3) status low).during s l2) ?_ (runActions_step ?_ (runActions_nil _)))))
    · rw [State.during_readStackAndRaise, ← byte_add_one_one]
      rfl
    · rw [State.during_readStackAndRaise, ← byte_add_two_one]
      rfl
    · rw [State.during_readCycle, State.setPc, lo8_wordOf, hi8_wordOf]
      rfl

/-- The accesses of the three pushes of an interrupt entry (R387, R388, R390), from the state `p`. -/
def pushedThree (p : State) (bPush : Bool) : List BusAccess :=
  [.write (wordOf 0x01 p.sp) p.pch, .write (wordOf 0x01 (p.sp - 1)) p.pcl,
    .write (wordOf 0x01 (p.sp - 2)) (p.statusImage bPush)]

/-- The handler of BRK or of an interrupt entered from `p`, after the accesses `l` since `s`: S three lower, I set, and PC
from the vector `v`, read after the pushes. -/
def interruptEntered (p s : State) (l : List BusAccess) (bPush : Bool) (v : Addr) : State :=
  let l' := l ++ pushedThree p bPush
  (({ p with sp := p.sp - 3 }.setFlag .i true).setPc
    (wordOf (s.answer (s.thenRead l' v) (v + 1)) (s.answer l' v))).during s (s.thenReads l' [v, v + 1])

/-- The shared tail of BRK and the interrupt sequences (R387, R284). -/
theorem runActions_interruptTail (bPush : Bool) (v : Addr) (p : State) (l : List BusAccess) :
    runActions [fun s => s.push s.pch, fun s => s.push s.pcl,
      fun s => (s.push (s.statusImage bPush)).setFlag .i true,
      fun s => { s.readCycle v with pcl := s.peek v },
      fun s => { s.readCycle (v + 1) with pch := s.peek (v + 1) }] (p.during s l) =
      interruptEntered p s l bPush v := by
  let l' := l ++ pushedThree p bPush
  let q : State := { p with sp := p.sp - 3 }.setFlag .i true
  refine runActions_step (State.during_push ..) (runActions_step (State.during_push ..) (runActions_step
    (t := q.during s l') ?_ (runActions_step
      (t := ({ q with pcl := s.answer l' v } : State).during s (s.thenRead l' v)) ?_
        (runActions_step ?_ (runActions_nil _)))))
  · rw [State.during_push]
    show State.setFlag (State.during { p with sp := p.sp - 1 - 1 - 1 } _ (l ++ [BusAccess.write _ _] ++
      [BusAccess.write (wordOf 0x01 (p.sp - 1)) _] ++ [BusAccess.write (wordOf 0x01 (p.sp - 1 - 1)) _])) _ _ = _
    rw [byte_sub_three_ones, byte_sub_one_one, List.append_assoc, List.append_assoc]
    rfl
  · rw [State.during_readCycle]
    rfl
  · rw [State.during_readCycle, interruptEntered, State.setPc, lo8_wordOf, hi8_wordOf]
    rfl

theorem interruptTail_blind (bPush : Bool) (v : Addr) :
    ∀ f ∈ [fun s : State => s.push s.pch, fun s => s.push s.pcl,
      fun s => (s.push (s.statusImage bPush)).setFlag .i true,
      fun s => { s.readCycle v with pcl := s.peek v },
      fun s => { s.readCycle (v + 1) with pch := s.peek (v + 1) }], LatchBlind f := by
  simp only [List.mem_cons, List.not_mem_nil, or_false, forall_eq_or_imp, forall_eq]
  exact ⟨blind_of_rfl (fun _ _ _ _ _ => rfl) fun _ => rfl, blind_of_rfl (fun _ _ _ _ _ => rfl) fun _ => rfl,
    blind_of_rfl (fun _ _ _ _ _ => rfl) fun _ => rfl, blind_of_rfl (fun _ _ _ _ _ => rfl) fun _ => rfl,
    blind_of_rfl (fun _ _ _ _ _ => rfl) fun _ => rfl⟩

/-- BRK (R164, R284): PC + 2 and P pushed, I set, PC from the IRQ vector. -/
theorem run_brk :
    runInstr (opcodeOf i) brkSeq s =
      .next (interruptEntered (s.implied i 2) s (fetchImplied s i) true irqVector).settled := by
  refine congrArg Host.Outcome.next ((Entry.run_fixed ((fun s => (s.readCycle s.pc).incPc) ::
    [fun s => s.push s.pch, fun s => s.push s.pcl,
      fun s => (s.push (s.statusImage true)).setFlag .i true,
      fun s => { s.readCycle irqVector with pcl := s.peek irqVector },
      fun s => { s.readCycle (irqVector + 1) with pch := s.peek (irqVector + 1) }]) _ ?_).trans
        (congrArg State.settled ?_))
  · rw [List.forall_mem_cons]
    exact ⟨blind_of_rfl (fun _ _ _ _ _ => rfl) fun _ => rfl, interruptTail_blind true irqVector⟩
  · refine runActions_step (t := s.implied i 2) ?_ (runActions_interruptTail s true irqVector (s.implied i 2) _)
    rw [implied_eq, State.incPc, State.progressed_pc, BitVec.add_assoc]
    rfl

/-- PHA and PHP (R165). -/
theorem run_push {v : State → Byte} (hv : ValueBlind v) :
    runInstr (opcodeOf i) (pushSeq v) s =
      .next (({ s.implied i with sp := s.sp - 1 } : State).during s
        (fetchImplied s i ++ [.write (wordOf 0x01 s.sp) (v (s.implied i))])).settled := by
  refine congrArg Host.Outcome.next ((Entry.run_fixed [fun s => s.readCycle s.pc, fun s => s.push (v s)] _ ?_).trans
    (congrArg State.settled ?_))
  · simp only [List.mem_cons, List.not_mem_nil, or_false, forall_eq_or_imp, forall_eq]
    refine ⟨blind_of_rfl (fun _ _ _ _ _ => rfl) fun _ => rfl, ⟨fun s i n e k => ?_, fun _ => rfl⟩⟩
    rw [hv]
    rfl
  · exact runActions_step (implied_eq i s) (runActions_step (State.during_push ..) (runActions_nil _))

/-- PLA and PLP (R166). -/
theorem run_pull {f : ReadOp} (hf : OpBlind f) :
    let l := s.thenRead (fetchImplied s i) (wordOf 0x01 s.sp)
    runInstr (opcodeOf i) (pullSeq f) s =
      .next (f (s.answer l (wordOf 0x01 (s.sp + 1)))
        { s.progressed (opcodeOf i) 1 s.al s.ah s.operand (s.thenRead l (wordOf 0x01 (s.sp + 1))) with
          sp := s.sp + 1 }).settled := by
  intro l
  refine congrArg Host.Outcome.next ((Entry.run_fixed [fun s => s.readCycle s.pc, fun s => s.readStackAndRaise,
    fun s => f (s.peek s.stackAddr) (s.readCycle s.stackAddr)] _ ?_).trans (congrArg State.settled ?_))
  · simp only [List.mem_cons, List.not_mem_nil, or_false, forall_eq_or_imp, forall_eq]
    exact ⟨blind_of_rfl (fun _ _ _ _ _ => rfl) fun _ => rfl, blind_of_rfl (fun _ _ _ _ _ => rfl) fun _ => rfl,
      fun s i n e k => (hf _).commutes (s.readCycle s.stackAddr) i n e k, fun s => (hf _).line (s.readCycle s.stackAddr)⟩
  · refine runActions_step (implied_eq i s) (runActions_step
      (t := ({ s.implied i with sp := s.sp + 1 } : State).during s l) (State.during_readStackAndRaise ..)
        (runActions_step ?_ (runActions_nil _)))
    rw [State.during_readCycle]
    rfl

/-- A JAM slot (R168): the opcode fetch, and nothing else. -/
theorem run_jam :
    runInstr (opcodeOf i) jamSeq s =
      .next (s.progressed (opcodeOf i) 1 s.al s.ah s.operand (fetch1 s i)).settled :=
  congrArg Host.Outcome.next (Entry.run_fixed [] _ (by simp))

/-- The store of SHA, SHX and SHY (R346 to R348) is blind to the latches. -/
theorem blind_storeHigh {v : State → Byte} (hv : ValueBlind v) :
    LatchBlind fun s => s.storeHigh j (v s &&& s.highPlusOne j) :=
  ⟨fun s i n e k => by simp only [hv s i n e k]; cases j <;> rfl, fun _ => rfl⟩

/-- Where the store of R355 goes, with the base address `w` and the index `v`: on a crossing the stored byte is also the
address's high byte. -/
def highPlace (w : Addr) (v stored : Byte) : Addr :=
  if carries w v then wordOf stored (lo8 w + v) else w + v.setWidth 16

/-- `H + 1` of R346 is recovered from the corrected high byte, and the crossing from the corrected low byte. -/
theorem highPlusOne_of_indexed (p : State) (hl : p.al = lo8 (w + (j.value p).setWidth 16))
    (hh : p.ah = hi8 (w + (j.value p).setWidth 16)) :
    p.highPlusOne j = hi8 w + 1 ∧ p.crossed j = decide (carries w (j.value p)) := by
  have h := fixUp_halves w (j.value p)
  have hc : p.crossed j = decide (carries w (j.value p)) := by
    rw [State.crossed, hl, ← h.2]
    exact decide_eq_decide.2 (crossed_iff_carry _ _)
  refine ⟨?_, hc⟩
  have h1 := h.1
  rw [State.highPlusOne, hc, hh, ← h1]
  simp only [decide_eq_true_eq, crossed_iff_carry]
  split <;> rfl

/-- The last cycle of R355, from the corrected address. -/
theorem storeHigh_eq (p : State) (l : List BusAccess) (stored : Byte) (hl : p.al = lo8 (w + (j.value p).setWidth 16))
    (hh : p.ah = hi8 (w + (j.value p).setWidth 16)) :
    (p.during s l).storeHigh j stored =
      ({ p with ah := if carries w (j.value p) then stored else p.ah } : State).during s
        (l ++ [.write (highPlace w (j.value p) stored) stored]) := by
  have hc : (p.during s l).crossed j = decide (carries w (j.value p)) := by
    rw [← (highPlusOne_of_indexed w j p hl hh).2]
    cases j <;> rfl
  show State.writeCycle ({ p with ah := if (p.during s l).crossed j then stored else p.ah }.during s l)
    (wordOf (if (p.during s l).crossed j then stored else p.ah) p.al) stored = _
  rw [hc, State.during_writeCycle, highPlace]
  by_cases h : carries w (j.value p)
  · simp only [h, decide_true, if_true]
    rw [hl, (fixUp_halves w (j.value p)).2]
  · simp only [h, decide_false, Bool.false_eq_true, if_false]
    rw [hl, hh, wordOf_hi8_lo8]

/-- SHA, SHX and SHY (R346 to R348), whose base address is `w` and index `v`. -/
theorem run_shSeq {address : List MicroOp} {m : Mode} {n : Addr} {o : Byte} (h : Reaches i address m s n o)
    (hm : m.indexed s i = some (w, j.value s)) (he : m.ea s i = w + (j.value s).setWidth 16)
    {v : State → Byte} (hv : ValueBlind v) (hp : v (s.addressed i m n o (m.leads s i)) = v s) :
    let stored := v s &&& (hi8 w + 1)
    runInstr (opcodeOf i) (shSeq address j v) s =
      .next (({ s.addressed i m n o [] with ah := if carries w (j.value s) then stored else hi8 (m.ea s i) } : State).during s
        (s.thenRead (m.fetches s i) (unfixed w (j.value s)) ++ [.write (highPlace w (j.value s) stored) stored])).settled := by
  intro stored
  refine (h.append [fun s => s.storeHigh j (v s &&& s.highPlusOne j)] (by simpa using blind_storeHigh j hv)).trans ?_
  refine congrArg (fun t => Host.Outcome.next (State.settled t)) ?_
  have hi : j.value (s.addressed i m n o (m.leads s i)) = j.value s := Index.value_progressed ..
  have h1 := (highPlusOne_of_indexed w j (s.addressed i m n o (m.leads s i)) (by rw [hi, ← he]; rfl)
    (by rw [hi, ← he]; rfl)).1
  rw [runActions_cons, runActions_nil, hp, h1]
  have hl : m.leads s i = s.thenRead (m.fetches s i) (unfixed w (j.value s)) := by rw [Mode.leads, hm]
  rw [← hl]
  refine (storeHigh_eq w j s (s.addressed i m n o []) (m.leads s i) stored ?_ ?_).trans ?_
  · rw [Index.value_progressed, ← he]; rfl
  · rw [Index.value_progressed, ← he]; rfl
  · rw [Index.value_progressed]
    rfl

/-- TAS (R349). -/
theorem run_tasSeq {address : List MicroOp} {m : Mode} {n : Addr} {o : Byte} (h : Reaches i address m s n o)
    (hm : m.indexed s i = some (w, s.y)) (he : m.ea s i = w + s.y.setWidth 16) :
    let stored := (s.a &&& s.x) &&& (hi8 w + 1)
    runInstr (opcodeOf i) (tasSeq address) s =
      .next (({ s.addressed i m n o [] with
          sp := s.a &&& s.x, ah := if carries w s.y then stored else hi8 (m.ea s i) } : State).during s
        (s.thenRead (m.fetches s i) (unfixed w s.y) ++ [.write (highPlace w s.y stored) stored])).settled := by
  intro stored
  refine (h.append [fun s : State => State.storeHigh { s with sp := s.a &&& s.x } .y ((s.a &&& s.x) &&& s.highPlusOne .y)]
    (by
      simp only [List.mem_cons, List.not_mem_nil, or_false, forall_eq]
      exact blind_of_rfl (fun _ _ _ _ _ => rfl) fun _ => rfl)).trans ?_
  refine congrArg (fun t => Host.Outcome.next (State.settled t)) ?_
  have h1 := (highPlusOne_of_indexed w .y (s.addressed i m n o (m.leads s i)) (congrArg lo8 he) (congrArg hi8 he)).1
  rw [runActions_cons, runActions_nil, h1]
  have hl : m.leads s i = s.thenRead (m.fetches s i) (unfixed w s.y) := by rw [Mode.leads, hm]
  rw [← hl]
  exact storeHigh_eq w .y s ({ s.addressed i m n o [] with sp := s.a &&& s.x } : State) (m.leads s i) stored
    (congrArg lo8 he) (congrArg hi8 he)

/-- An interrupt sequence from the state `p` that its c0 leaves after the accesses `l`: never polled, PC and P pushed with
B clear, I set, PC from the vector (R167, R387, R139). -/
theorem run_interruptEntry (v : Addr) (p : State) (l : List BusAccess) :
    (interruptEntry v).run (p.during s l) =
      { interruptEntered p s (s.thenRead l p.pc) false v with opCodeCycle := 0 } := by
  refine (Entry.run_never (fun s => s.readCycle s.pc) [fun s => s.push s.pch, fun s => s.push s.pcl,
      fun s => (s.push (s.statusImage false)).setFlag .i true,
      fun s => { s.readCycle v with pcl := s.peek v },
      fun s => { s.readCycle (v + 1) with pch := s.peek (v + 1) }] _ ?_).trans
        (congrArg (fun t : State => { t with opCodeCycle := 0 }) ?_)
  · rw [List.forall_mem_cons]
    exact ⟨blind_of_rfl (fun _ _ _ _ _ => rfl) fun _ => rfl, interruptTail_blind false v⟩
  · exact runActions_step (State.during_readCycle ..) (runActions_interruptTail s false v p _)

/-- The state that the dispatching c0 leaves (R133). -/
theorem dispatchInterrupt_eq :
    s.dispatchInterrupt =
      ({ s with opCode := if s.nmiSignal then .nmiSequence else .irqSequence, nmiSignal := false } : State).during s
        (s.thenRead [] s.pc) := by
  rw [State.thenRead_nil]
  by_cases hn : s.nmiSignal = true
  · rw [State.dispatchInterrupt, if_pos hn, if_pos hn]; rfl
  · rw [State.dispatchInterrupt, if_neg hn, if_neg hn]
    rw [show false = s.nmiSignal by simpa using hn]
    rfl

/-- Taking the pending interrupt (R133, R167). -/
theorem takeInterrupt_eq :
    s.takeInterrupt =
      { interruptEntered { s with opCode := if s.nmiSignal then .nmiSequence else .irqSequence, nmiSignal := false } s
          (s.thenReads [] [s.pc, s.pc]) false (if s.nmiSignal then nmiVector else irqVector) with opCodeCycle := 0 } := by
  rw [State.takeInterrupt, dispatchInterrupt_eq, run_interruptEntry]
  rfl

end sequences

end Sys2Proof.Machine
end

