-- ==== Sys2Proof/Laws/Blind.lean ====
section
/-! SUPPORT. No instruction's operation reads or writes what a poll writes: one lemma per operation. -/

namespace Sys2Proof.Machine

theorem blind_opLda : OpBlind opLda := fun _ => ⟨fun _ _ _ _ _ => rfl, fun _ => rfl⟩
theorem blind_opLdx : OpBlind opLdx := fun _ => ⟨fun _ _ _ _ _ => rfl, fun _ => rfl⟩
theorem blind_opLdy : OpBlind opLdy := fun _ => ⟨fun _ _ _ _ _ => rfl, fun _ => rfl⟩
theorem blind_opAdc : OpBlind opAdc := fun _ => ⟨fun _ _ _ _ _ => rfl, fun _ => rfl⟩
theorem blind_opSbc : OpBlind opSbc := fun _ => ⟨fun _ _ _ _ _ => rfl, fun _ => rfl⟩
theorem blind_opAnd : OpBlind opAnd := fun _ => ⟨fun _ _ _ _ _ => rfl, fun _ => rfl⟩
theorem blind_opOra : OpBlind opOra := fun _ => ⟨fun _ _ _ _ _ => rfl, fun _ => rfl⟩
theorem blind_opEor : OpBlind opEor := fun _ => ⟨fun _ _ _ _ _ => rfl, fun _ => rfl⟩
theorem blind_opBit : OpBlind opBit := fun _ => ⟨fun _ _ _ _ _ => rfl, fun _ => rfl⟩
theorem blind_opCmp : OpBlind opCmp := fun _ => ⟨fun _ _ _ _ _ => rfl, fun _ => rfl⟩
theorem blind_opCpx : OpBlind opCpx := fun _ => ⟨fun _ _ _ _ _ => rfl, fun _ => rfl⟩
theorem blind_opCpy : OpBlind opCpy := fun _ => ⟨fun _ _ _ _ _ => rfl, fun _ => rfl⟩
theorem blind_opLax : OpBlind opLax := fun _ => ⟨fun _ _ _ _ _ => rfl, fun _ => rfl⟩
theorem blind_opAnc : OpBlind opAnc := fun _ => ⟨fun _ _ _ _ _ => rfl, fun _ => rfl⟩
theorem blind_opAlr : OpBlind opAlr := fun _ => ⟨fun _ _ _ _ _ => rfl, fun _ => rfl⟩
theorem blind_opArr : OpBlind opArr := fun _ => ⟨fun _ _ _ _ _ => rfl, fun _ => rfl⟩
theorem blind_opAne : OpBlind opAne := fun _ => ⟨fun _ _ _ _ _ => rfl, fun _ => rfl⟩
theorem blind_opLxa : OpBlind opLxa := fun _ => ⟨fun _ _ _ _ _ => rfl, fun _ => rfl⟩
theorem blind_opSbx : OpBlind opSbx := fun _ => ⟨fun _ _ _ _ _ => rfl, fun _ => rfl⟩
theorem blind_opLas : OpBlind opLas := fun _ => ⟨fun _ _ _ _ _ => rfl, fun _ => rfl⟩
theorem blind_opNop : OpBlind opNop := fun _ => ⟨fun _ _ _ _ _ => rfl, fun _ => rfl⟩
theorem blind_aslByte : ModifyBlind aslByte := ⟨fun _ _ _ _ _ _ => rfl, fun _ => ⟨fun _ _ _ _ _ => rfl, fun _ => rfl⟩⟩
theorem blind_lsrByte : ModifyBlind lsrByte := ⟨fun _ _ _ _ _ _ => rfl, fun _ => ⟨fun _ _ _ _ _ => rfl, fun _ => rfl⟩⟩
theorem blind_rolByte : ModifyBlind rolByte := ⟨fun _ _ _ _ _ _ => rfl, fun _ => ⟨fun _ _ _ _ _ => rfl, fun _ => rfl⟩⟩
theorem blind_rorByte : ModifyBlind rorByte := ⟨fun _ _ _ _ _ _ => rfl, fun _ => ⟨fun _ _ _ _ _ => rfl, fun _ => rfl⟩⟩
theorem blind_incByte : ModifyBlind incByte := ⟨fun _ _ _ _ _ _ => rfl, fun _ => ⟨fun _ _ _ _ _ => rfl, fun _ => rfl⟩⟩
theorem blind_decByte : ModifyBlind decByte := ⟨fun _ _ _ _ _ _ => rfl, fun _ => ⟨fun _ _ _ _ _ => rfl, fun _ => rfl⟩⟩
theorem blind_modifySlo : ModifyBlind modifySlo := ⟨fun _ _ _ _ _ _ => rfl, fun _ => ⟨fun _ _ _ _ _ => rfl, fun _ => rfl⟩⟩
theorem blind_modifyRla : ModifyBlind modifyRla := ⟨fun _ _ _ _ _ _ => rfl, fun _ => ⟨fun _ _ _ _ _ => rfl, fun _ => rfl⟩⟩
theorem blind_modifySre : ModifyBlind modifySre := ⟨fun _ _ _ _ _ _ => rfl, fun _ => ⟨fun _ _ _ _ _ => rfl, fun _ => rfl⟩⟩
theorem blind_modifyRra : ModifyBlind modifyRra := ⟨fun _ _ _ _ _ _ => rfl, fun _ => ⟨fun _ _ _ _ _ => rfl, fun _ => rfl⟩⟩
theorem blind_modifyDcp : ModifyBlind modifyDcp := ⟨fun _ _ _ _ _ _ => rfl, fun _ => ⟨fun _ _ _ _ _ => rfl, fun _ => rfl⟩⟩
theorem blind_modifyIsc : ModifyBlind modifyIsc := ⟨fun _ _ _ _ _ _ => rfl, fun _ => ⟨fun _ _ _ _ _ => rfl, fun _ => rfl⟩⟩
theorem blind_opTax : LatchBlind opTax := ⟨fun _ _ _ _ _ => rfl, fun _ => rfl⟩
theorem blind_opTay : LatchBlind opTay := ⟨fun _ _ _ _ _ => rfl, fun _ => rfl⟩
theorem blind_opTxa : LatchBlind opTxa := ⟨fun _ _ _ _ _ => rfl, fun _ => rfl⟩
theorem blind_opTya : LatchBlind opTya := ⟨fun _ _ _ _ _ => rfl, fun _ => rfl⟩
theorem blind_opTsx : LatchBlind opTsx := ⟨fun _ _ _ _ _ => rfl, fun _ => rfl⟩
theorem blind_opTxs : LatchBlind opTxs := ⟨fun _ _ _ _ _ => rfl, fun _ => rfl⟩
theorem blind_opInx : LatchBlind opInx := ⟨fun _ _ _ _ _ => rfl, fun _ => rfl⟩
theorem blind_opIny : LatchBlind opIny := ⟨fun _ _ _ _ _ => rfl, fun _ => rfl⟩
theorem blind_opDex : LatchBlind opDex := ⟨fun _ _ _ _ _ => rfl, fun _ => rfl⟩
theorem blind_opDey : LatchBlind opDey := ⟨fun _ _ _ _ _ => rfl, fun _ => rfl⟩
theorem blind_valueSta : ValueBlind valueSta := fun _ _ _ _ _ => rfl
theorem blind_valueStx : ValueBlind valueStx := fun _ _ _ _ _ => rfl
theorem blind_valueSty : ValueBlind valueSty := fun _ _ _ _ _ => rfl
theorem blind_valueSax : ValueBlind valueSax := fun _ _ _ _ _ => rfl
theorem blind_sourceSha : ValueBlind sourceSha := fun _ _ _ _ _ => rfl
theorem blind_sourceShx : ValueBlind sourceShx := fun _ _ _ _ _ => rfl
theorem blind_sourceShy : ValueBlind sourceShy := fun _ _ _ _ _ => rfl
theorem blind_setFlag (f : Flag) (v : Bool) : LatchBlind fun s => s.setFlag f v := ⟨fun _ _ _ _ _ => rfl, fun _ => rfl⟩
theorem blind_id : LatchBlind id := ⟨fun _ _ _ _ _ => rfl, fun _ => rfl⟩
theorem blind_a : ValueBlind fun s => s.a := fun _ _ _ _ _ => rfl
theorem blind_statusImage (b : Bool) : ValueBlind fun s => s.statusImage b := fun _ _ _ _ _ => rfl
theorem blind_pla : OpBlind fun v s => { s with a := v }.setZN v := fun _ => ⟨fun _ _ _ _ _ => rfl, fun _ => rfl⟩
theorem blind_plp : OpBlind fun v s => s.setStatus v := fun _ => ⟨fun _ _ _ _ _ => rfl, fun _ => rfl⟩

end Sys2Proof.Machine
end

