-- ==== Sys2Proof/Laws/Decode.lean ====
section
/-! SUPPORT. The decoder, one opcode value at a time: which of the bytes it is given it reads. -/

namespace Sys2Proof

/-- A statement about every opcode value is one about the 256 numerals. -/
theorem byte_forall {P : Byte → Prop} (h : ∀ n < 256, P (BitVec.ofNat 8 n)) (op : Byte) : P op := by
  have := h op.toNat op.isLt
  rwa [BitVec.ofNat_toNat, BitVec.setWidth_eq] at this

/-- The lengths are 1, 2 and 3 (R100). -/
theorem opcodeLength_cases (op : Byte) : opcodeLength op = 1 ∨ opcodeLength op = 2 ∨ opcodeLength op = 3 := by
  revert op
  decide

/-- The decoder reads as many operand bytes as the opcode's length leaves (R100). -/
theorem decodeBytes_reads (op b1 b2 : Byte) :
    decodeBytes op b1 b2 =
      decodeBytes op (if opcodeLength op = 1 then 0 else b1) (if opcodeLength op = 3 then b2 else 0) := by
  revert op
  refine byte_forall fun n hn => ?_
  interval_cases n <;> rfl

/-- What is decoded from at least three bytes at the head of a list (R105). -/
theorem decode_cons (op b1 b2 : Byte) (rest : List Byte) :
    decode (op :: b1 :: b2 :: rest) =
      .ok (decodeBytes op b1 b2, (op :: b1 :: b2 :: rest).drop (opcodeLength op)) := by
  rw [decodeBytes_reads op b1 b2]
  simp only [decode]
  rcases opcodeLength_cases op with h | h | h <;> rw [h] <;> rfl

end Sys2Proof
end

