-- ==== Sys2Proof/Laws/Exec.lean ====
section
/-! SUPPORT. exec, one instruction at a time: the opcode byte and the cycle sequence that each arm runs. -/

namespace Sys2Proof.Machine

section exec
variable (b : Byte) (w : Addr) (s : State)

theorem exec_brk : exec .brk s = runInstr 0x00 (brkSeq) s := rfl
theorem exec_oraIzx : exec (.oraIzx b) s = runInstr 0x01 (readSeq (addrIzx (.byte b)) opOra) s := rfl
theorem exec_jam02 : exec .jam02 s = runInstr 0x02 (jamSeq) s := rfl
theorem exec_sloIzx : exec (.sloIzx b) s = runInstr 0x03 (rmwSeq (addrIzx (.byte b)) modifySlo) s := rfl
theorem exec_nopZp04 : exec (.nopZp04 b) s = runInstr 0x04 (readSeq (addrZp (.byte b)) opNop) s := rfl
theorem exec_oraZp : exec (.oraZp b) s = runInstr 0x05 (readSeq (addrZp (.byte b)) opOra) s := rfl
theorem exec_aslZp : exec (.aslZp b) s = runInstr 0x06 (rmwSeq (addrZp (.byte b)) aslByte) s := rfl
theorem exec_sloZp : exec (.sloZp b) s = runInstr 0x07 (rmwSeq (addrZp (.byte b)) modifySlo) s := rfl
theorem exec_php : exec .php s = runInstr 0x08 (pushSeq fun s => s.statusImage true) s := rfl
theorem exec_oraImm : exec (.oraImm b) s = runInstr 0x09 (immediateSeq (.byte b) opOra) s := rfl
theorem exec_aslAcc : exec .aslAcc s = runInstr 0x0A (accumulatorSeq aslByte) s := rfl
theorem exec_ancImm0B : exec (.ancImm0B b) s = runInstr 0x0B (immediateSeq (.byte b) opAnc) s := rfl
theorem exec_nopAbs0C : exec (.nopAbs0C w) s = runInstr 0x0C (readSeq (addrAbs (.word w)) opNop) s := rfl
theorem exec_oraAbs : exec (.oraAbs w) s = runInstr 0x0D (readSeq (addrAbs (.word w)) opOra) s := rfl
theorem exec_aslAbs : exec (.aslAbs w) s = runInstr 0x0E (rmwSeq (addrAbs (.word w)) aslByte) s := rfl
theorem exec_sloAbs : exec (.sloAbs w) s = runInstr 0x0F (rmwSeq (addrAbs (.word w)) modifySlo) s := rfl
theorem exec_bpl : exec (.bpl b) s = runInstr 0x10 (branchSeq (.byte b) .n false) s := rfl
theorem exec_oraIzy : exec (.oraIzy b) s = runInstr 0x11 (readIzySeq (.byte b) opOra) s := rfl
theorem exec_jam12 : exec .jam12 s = runInstr 0x12 (jamSeq) s := rfl
theorem exec_sloIzy : exec (.sloIzy b) s = runInstr 0x13 (rmwSeq (addrIzy (.byte b)) modifySlo) s := rfl
theorem exec_nopZpx14 : exec (.nopZpx14 b) s = runInstr 0x14 (readSeq (addrZpIndexed (.byte b) .x) opNop) s := rfl
theorem exec_oraZpx : exec (.oraZpx b) s = runInstr 0x15 (readSeq (addrZpIndexed (.byte b) .x) opOra) s := rfl
theorem exec_aslZpx : exec (.aslZpx b) s = runInstr 0x16 (rmwSeq (addrZpIndexed (.byte b) .x) aslByte) s := rfl
theorem exec_sloZpx : exec (.sloZpx b) s = runInstr 0x17 (rmwSeq (addrZpIndexed (.byte b) .x) modifySlo) s := rfl
theorem exec_clc : exec .clc s = runInstr 0x18 (impliedSeq fun s => s.setFlag .c false) s := rfl
theorem exec_oraAbsy : exec (.oraAbsy w) s = runInstr 0x19 (readAbsIndexedSeq (.word w) .y opOra) s := rfl
theorem exec_nopImp1A : exec .nopImp1A s = runInstr 0x1A (impliedSeq id) s := rfl
theorem exec_sloAbsy : exec (.sloAbsy w) s = runInstr 0x1B (rmwSeq (addrAbsIndexed (.word w) .y) modifySlo) s := rfl
theorem exec_nopAbsx1C : exec (.nopAbsx1C w) s = runInstr 0x1C (readAbsIndexedSeq (.word w) .x opNop) s := rfl
theorem exec_oraAbsx : exec (.oraAbsx w) s = runInstr 0x1D (readAbsIndexedSeq (.word w) .x opOra) s := rfl
theorem exec_aslAbsx : exec (.aslAbsx w) s = runInstr 0x1E (rmwSeq (addrAbsIndexed (.word w) .x) aslByte) s := rfl
theorem exec_sloAbsx : exec (.sloAbsx w) s = runInstr 0x1F (rmwSeq (addrAbsIndexed (.word w) .x) modifySlo) s := rfl
theorem exec_jsrAbs : exec (.jsrAbs w) s = runInstr 0x20 (jsrSeq (.word w)) s := rfl
theorem exec_andIzx : exec (.andIzx b) s = runInstr 0x21 (readSeq (addrIzx (.byte b)) opAnd) s := rfl
theorem exec_jam22 : exec .jam22 s = runInstr 0x22 (jamSeq) s := rfl
theorem exec_rlaIzx : exec (.rlaIzx b) s = runInstr 0x23 (rmwSeq (addrIzx (.byte b)) modifyRla) s := rfl
theorem exec_bitZp : exec (.bitZp b) s = runInstr 0x24 (readSeq (addrZp (.byte b)) opBit) s := rfl
theorem exec_andZp : exec (.andZp b) s = runInstr 0x25 (readSeq (addrZp (.byte b)) opAnd) s := rfl
theorem exec_rolZp : exec (.rolZp b) s = runInstr 0x26 (rmwSeq (addrZp (.byte b)) rolByte) s := rfl
theorem exec_rlaZp : exec (.rlaZp b) s = runInstr 0x27 (rmwSeq (addrZp (.byte b)) modifyRla) s := rfl
theorem exec_plp : exec .plp s = runInstr 0x28 (pullSeq fun v s => s.setStatus v) s := rfl
theorem exec_andImm : exec (.andImm b) s = runInstr 0x29 (immediateSeq (.byte b) opAnd) s := rfl
theorem exec_rolAcc : exec .rolAcc s = runInstr 0x2A (accumulatorSeq rolByte) s := rfl
theorem exec_ancImm2B : exec (.ancImm2B b) s = runInstr 0x2B (immediateSeq (.byte b) opAnc) s := rfl
theorem exec_bitAbs : exec (.bitAbs w) s = runInstr 0x2C (readSeq (addrAbs (.word w)) opBit) s := rfl
theorem exec_andAbs : exec (.andAbs w) s = runInstr 0x2D (readSeq (addrAbs (.word w)) opAnd) s := rfl
theorem exec_rolAbs : exec (.rolAbs w) s = runInstr 0x2E (rmwSeq (addrAbs (.word w)) rolByte) s := rfl
theorem exec_rlaAbs : exec (.rlaAbs w) s = runInstr 0x2F (rmwSeq (addrAbs (.word w)) modifyRla) s := rfl
theorem exec_bmi : exec (.bmi b) s = runInstr 0x30 (branchSeq (.byte b) .n true) s := rfl
theorem exec_andIzy : exec (.andIzy b) s = runInstr 0x31 (readIzySeq (.byte b) opAnd) s := rfl
theorem exec_jam32 : exec .jam32 s = runInstr 0x32 (jamSeq) s := rfl
theorem exec_rlaIzy : exec (.rlaIzy b) s = runInstr 0x33 (rmwSeq (addrIzy (.byte b)) modifyRla) s := rfl
theorem exec_nopZpx34 : exec (.nopZpx34 b) s = runInstr 0x34 (readSeq (addrZpIndexed (.byte b) .x) opNop) s := rfl
theorem exec_andZpx : exec (.andZpx b) s = runInstr 0x35 (readSeq (addrZpIndexed (.byte b) .x) opAnd) s := rfl
theorem exec_rolZpx : exec (.rolZpx b) s = runInstr 0x36 (rmwSeq (addrZpIndexed (.byte b) .x) rolByte) s := rfl
theorem exec_rlaZpx : exec (.rlaZpx b) s = runInstr 0x37 (rmwSeq (addrZpIndexed (.byte b) .x) modifyRla) s := rfl
theorem exec_sec : exec .sec s = runInstr 0x38 (impliedSeq fun s => s.setFlag .c true) s := rfl
theorem exec_andAbsy : exec (.andAbsy w) s = runInstr 0x39 (readAbsIndexedSeq (.word w) .y opAnd) s := rfl
theorem exec_nopImp3A : exec .nopImp3A s = runInstr 0x3A (impliedSeq id) s := rfl
theorem exec_rlaAbsy : exec (.rlaAbsy w) s = runInstr 0x3B (rmwSeq (addrAbsIndexed (.word w) .y) modifyRla) s := rfl
theorem exec_nopAbsx3C : exec (.nopAbsx3C w) s = runInstr 0x3C (readAbsIndexedSeq (.word w) .x opNop) s := rfl
theorem exec_andAbsx : exec (.andAbsx w) s = runInstr 0x3D (readAbsIndexedSeq (.word w) .x opAnd) s := rfl
theorem exec_rolAbsx : exec (.rolAbsx w) s = runInstr 0x3E (rmwSeq (addrAbsIndexed (.word w) .x) rolByte) s := rfl
theorem exec_rlaAbsx : exec (.rlaAbsx w) s = runInstr 0x3F (rmwSeq (addrAbsIndexed (.word w) .x) modifyRla) s := rfl
theorem exec_rti : exec .rti s = runInstr 0x40 (rtiSeq) s := rfl
theorem exec_eorIzx : exec (.eorIzx b) s = runInstr 0x41 (readSeq (addrIzx (.byte b)) opEor) s := rfl
theorem exec_jam42 : exec .jam42 s = runInstr 0x42 (jamSeq) s := rfl
theorem exec_sreIzx : exec (.sreIzx b) s = runInstr 0x43 (rmwSeq (addrIzx (.byte b)) modifySre) s := rfl
theorem exec_nopZp44 : exec (.nopZp44 b) s = runInstr 0x44 (readSeq (addrZp (.byte b)) opNop) s := rfl
theorem exec_eorZp : exec (.eorZp b) s = runInstr 0x45 (readSeq (addrZp (.byte b)) opEor) s := rfl
theorem exec_lsrZp : exec (.lsrZp b) s = runInstr 0x46 (rmwSeq (addrZp (.byte b)) lsrByte) s := rfl
theorem exec_sreZp : exec (.sreZp b) s = runInstr 0x47 (rmwSeq (addrZp (.byte b)) modifySre) s := rfl
theorem exec_pha : exec .pha s = runInstr 0x48 (pushSeq fun s => s.a) s := rfl
theorem exec_eorImm : exec (.eorImm b) s = runInstr 0x49 (immediateSeq (.byte b) opEor) s := rfl
theorem exec_lsrAcc : exec .lsrAcc s = runInstr 0x4A (accumulatorSeq lsrByte) s := rfl
theorem exec_alrImm : exec (.alrImm b) s = runInstr 0x4B (immediateSeq (.byte b) opAlr) s := rfl
theorem exec_jmpAbs : exec (.jmpAbs w) s = runInstr 0x4C (jmpAbsSeq (.word w)) s := rfl
theorem exec_eorAbs : exec (.eorAbs w) s = runInstr 0x4D (readSeq (addrAbs (.word w)) opEor) s := rfl
theorem exec_lsrAbs : exec (.lsrAbs w) s = runInstr 0x4E (rmwSeq (addrAbs (.word w)) lsrByte) s := rfl
theorem exec_sreAbs : exec (.sreAbs w) s = runInstr 0x4F (rmwSeq (addrAbs (.word w)) modifySre) s := rfl
theorem exec_bvc : exec (.bvc b) s = runInstr 0x50 (branchSeq (.byte b) .v false) s := rfl
theorem exec_eorIzy : exec (.eorIzy b) s = runInstr 0x51 (readIzySeq (.byte b) opEor) s := rfl
theorem exec_jam52 : exec .jam52 s = runInstr 0x52 (jamSeq) s := rfl
theorem exec_sreIzy : exec (.sreIzy b) s = runInstr 0x53 (rmwSeq (addrIzy (.byte b)) modifySre) s := rfl
theorem exec_nopZpx54 : exec (.nopZpx54 b) s = runInstr 0x54 (readSeq (addrZpIndexed (.byte b) .x) opNop) s := rfl
theorem exec_eorZpx : exec (.eorZpx b) s = runInstr 0x55 (readSeq (addrZpIndexed (.byte b) .x) opEor) s := rfl
theorem exec_lsrZpx : exec (.lsrZpx b) s = runInstr 0x56 (rmwSeq (addrZpIndexed (.byte b) .x) lsrByte) s := rfl
theorem exec_sreZpx : exec (.sreZpx b) s = runInstr 0x57 (rmwSeq (addrZpIndexed (.byte b) .x) modifySre) s := rfl
theorem exec_cli : exec .cli s = runInstr 0x58 (impliedSeq fun s => s.setFlag .i false) s := rfl
theorem exec_eorAbsy : exec (.eorAbsy w) s = runInstr 0x59 (readAbsIndexedSeq (.word w) .y opEor) s := rfl
theorem exec_nopImp5A : exec .nopImp5A s = runInstr 0x5A (impliedSeq id) s := rfl
theorem exec_sreAbsy : exec (.sreAbsy w) s = runInstr 0x5B (rmwSeq (addrAbsIndexed (.word w) .y) modifySre) s := rfl
theorem exec_nopAbsx5C : exec (.nopAbsx5C w) s = runInstr 0x5C (readAbsIndexedSeq (.word w) .x opNop) s := rfl
theorem exec_eorAbsx : exec (.eorAbsx w) s = runInstr 0x5D (readAbsIndexedSeq (.word w) .x opEor) s := rfl
theorem exec_lsrAbsx : exec (.lsrAbsx w) s = runInstr 0x5E (rmwSeq (addrAbsIndexed (.word w) .x) lsrByte) s := rfl
theorem exec_sreAbsx : exec (.sreAbsx w) s = runInstr 0x5F (rmwSeq (addrAbsIndexed (.word w) .x) modifySre) s := rfl
theorem exec_rts : exec .rts s = runInstr 0x60 (rtsSeq) s := rfl
theorem exec_adcIzx : exec (.adcIzx b) s = runInstr 0x61 (readSeq (addrIzx (.byte b)) opAdc) s := rfl
theorem exec_jam62 : exec .jam62 s = runInstr 0x62 (jamSeq) s := rfl
theorem exec_rraIzx : exec (.rraIzx b) s = runInstr 0x63 (rmwSeq (addrIzx (.byte b)) modifyRra) s := rfl
theorem exec_nopZp64 : exec (.nopZp64 b) s = runInstr 0x64 (readSeq (addrZp (.byte b)) opNop) s := rfl
theorem exec_adcZp : exec (.adcZp b) s = runInstr 0x65 (readSeq (addrZp (.byte b)) opAdc) s := rfl
theorem exec_rorZp : exec (.rorZp b) s = runInstr 0x66 (rmwSeq (addrZp (.byte b)) rorByte) s := rfl
theorem exec_rraZp : exec (.rraZp b) s = runInstr 0x67 (rmwSeq (addrZp (.byte b)) modifyRra) s := rfl
theorem exec_pla : exec .pla s = runInstr 0x68 (pullSeq fun v s => { s with a := v }.setZN v) s := rfl
theorem exec_adcImm : exec (.adcImm b) s = runInstr 0x69 (immediateSeq (.byte b) opAdc) s := rfl
theorem exec_rorAcc : exec .rorAcc s = runInstr 0x6A (accumulatorSeq rorByte) s := rfl
theorem exec_arrImm : exec (.arrImm b) s = runInstr 0x6B (immediateSeq (.byte b) opArr) s := rfl
theorem exec_jmpInd : exec (.jmpInd w) s = runInstr 0x6C (jmpIndirectSeq (.word w)) s := rfl
theorem exec_adcAbs : exec (.adcAbs w) s = runInstr 0x6D (readSeq (addrAbs (.word w)) opAdc) s := rfl
theorem exec_rorAbs : exec (.rorAbs w) s = runInstr 0x6E (rmwSeq (addrAbs (.word w)) rorByte) s := rfl
theorem exec_rraAbs : exec (.rraAbs w) s = runInstr 0x6F (rmwSeq (addrAbs (.word w)) modifyRra) s := rfl
theorem exec_bvs : exec (.bvs b) s = runInstr 0x70 (branchSeq (.byte b) .v true) s := rfl
theorem exec_adcIzy : exec (.adcIzy b) s = runInstr 0x71 (readIzySeq (.byte b) opAdc) s := rfl
theorem exec_jam72 : exec .jam72 s = runInstr 0x72 (jamSeq) s := rfl
theorem exec_rraIzy : exec (.rraIzy b) s = runInstr 0x73 (rmwSeq (addrIzy (.byte b)) modifyRra) s := rfl
theorem exec_nopZpx74 : exec (.nopZpx74 b) s = runInstr 0x74 (readSeq (addrZpIndexed (.byte b) .x) opNop) s := rfl
theorem exec_adcZpx : exec (.adcZpx b) s = runInstr 0x75 (readSeq (addrZpIndexed (.byte b) .x) opAdc) s := rfl
theorem exec_rorZpx : exec (.rorZpx b) s = runInstr 0x76 (rmwSeq (addrZpIndexed (.byte b) .x) rorByte) s := rfl
theorem exec_rraZpx : exec (.rraZpx b) s = runInstr 0x77 (rmwSeq (addrZpIndexed (.byte b) .x) modifyRra) s := rfl
theorem exec_sei : exec .sei s = runInstr 0x78 (impliedSeq fun s => s.setFlag .i true) s := rfl
theorem exec_adcAbsy : exec (.adcAbsy w) s = runInstr 0x79 (readAbsIndexedSeq (.word w) .y opAdc) s := rfl
theorem exec_nopImp7A : exec .nopImp7A s = runInstr 0x7A (impliedSeq id) s := rfl
theorem exec_rraAbsy : exec (.rraAbsy w) s = runInstr 0x7B (rmwSeq (addrAbsIndexed (.word w) .y) modifyRra) s := rfl
theorem exec_nopAbsx7C : exec (.nopAbsx7C w) s = runInstr 0x7C (readAbsIndexedSeq (.word w) .x opNop) s := rfl
theorem exec_adcAbsx : exec (.adcAbsx w) s = runInstr 0x7D (readAbsIndexedSeq (.word w) .x opAdc) s := rfl
theorem exec_rorAbsx : exec (.rorAbsx w) s = runInstr 0x7E (rmwSeq (addrAbsIndexed (.word w) .x) rorByte) s := rfl
theorem exec_rraAbsx : exec (.rraAbsx w) s = runInstr 0x7F (rmwSeq (addrAbsIndexed (.word w) .x) modifyRra) s := rfl
theorem exec_nopImm80 : exec (.nopImm80 b) s = runInstr 0x80 (immediateSeq (.byte b) opNop) s := rfl
theorem exec_staIzx : exec (.staIzx b) s = runInstr 0x81 (writeSeq (addrIzx (.byte b)) valueSta) s := rfl
theorem exec_nopImm82 : exec (.nopImm82 b) s = runInstr 0x82 (immediateSeq (.byte b) opNop) s := rfl
theorem exec_saxIzx : exec (.saxIzx b) s = runInstr 0x83 (writeSeq (addrIzx (.byte b)) valueSax) s := rfl
theorem exec_styZp : exec (.styZp b) s = runInstr 0x84 (writeSeq (addrZp (.byte b)) valueSty) s := rfl
theorem exec_staZp : exec (.staZp b) s = runInstr 0x85 (writeSeq (addrZp (.byte b)) valueSta) s := rfl
theorem exec_stxZp : exec (.stxZp b) s = runInstr 0x86 (writeSeq (addrZp (.byte b)) valueStx) s := rfl
theorem exec_saxZp : exec (.saxZp b) s = runInstr 0x87 (writeSeq (addrZp (.byte b)) valueSax) s := rfl
theorem exec_dey : exec .dey s = runInstr 0x88 (impliedSeq opDey) s := rfl
theorem exec_nopImm89 : exec (.nopImm89 b) s = runInstr 0x89 (immediateSeq (.byte b) opNop) s := rfl
theorem exec_txa : exec .txa s = runInstr 0x8A (impliedSeq opTxa) s := rfl
theorem exec_aneImm : exec (.aneImm b) s = runInstr 0x8B (immediateSeq (.byte b) opAne) s := rfl
theorem exec_styAbs : exec (.styAbs w) s = runInstr 0x8C (writeSeq (addrAbs (.word w)) valueSty) s := rfl
theorem exec_staAbs : exec (.staAbs w) s = runInstr 0x8D (writeSeq (addrAbs (.word w)) valueSta) s := rfl
theorem exec_stxAbs : exec (.stxAbs w) s = runInstr 0x8E (writeSeq (addrAbs (.word w)) valueStx) s := rfl
theorem exec_saxAbs : exec (.saxAbs w) s = runInstr 0x8F (writeSeq (addrAbs (.word w)) valueSax) s := rfl
theorem exec_bcc : exec (.bcc b) s = runInstr 0x90 (branchSeq (.byte b) .c false) s := rfl
theorem exec_staIzy : exec (.staIzy b) s = runInstr 0x91 (writeSeq (addrIzy (.byte b)) valueSta) s := rfl
theorem exec_jam92 : exec .jam92 s = runInstr 0x92 (jamSeq) s := rfl
theorem exec_shaIzy : exec (.shaIzy b) s = runInstr 0x93 (shSeq (addrIzy (.byte b)) .y sourceSha) s := rfl
theorem exec_styZpx : exec (.styZpx b) s = runInstr 0x94 (writeSeq (addrZpIndexed (.byte b) .x) valueSty) s := rfl
theorem exec_staZpx : exec (.staZpx b) s = runInstr 0x95 (writeSeq (addrZpIndexed (.byte b) .x) valueSta) s := rfl
theorem exec_stxZpy : exec (.stxZpy b) s = runInstr 0x96 (writeSeq (addrZpIndexed (.byte b) .y) valueStx) s := rfl
theorem exec_saxZpy : exec (.saxZpy b) s = runInstr 0x97 (writeSeq (addrZpIndexed (.byte b) .y) valueSax) s := rfl
theorem exec_tya : exec .tya s = runInstr 0x98 (impliedSeq opTya) s := rfl
theorem exec_staAbsy :
    exec (.staAbsy w) s = runInstr 0x99 (writeSeq (addrAbsIndexed (.word w) .y) valueSta) s := rfl
theorem exec_txs : exec .txs s = runInstr 0x9A (impliedSeq opTxs) s := rfl
theorem exec_tasAbsy : exec (.tasAbsy w) s = runInstr 0x9B (tasSeq (addrAbsIndexed (.word w) .y)) s := rfl
theorem exec_shyAbsx :
    exec (.shyAbsx w) s = runInstr 0x9C (shSeq (addrAbsIndexed (.word w) .x) .x sourceShy) s := rfl
theorem exec_staAbsx :
    exec (.staAbsx w) s = runInstr 0x9D (writeSeq (addrAbsIndexed (.word w) .x) valueSta) s := rfl
theorem exec_shxAbsy :
    exec (.shxAbsy w) s = runInstr 0x9E (shSeq (addrAbsIndexed (.word w) .y) .y sourceShx) s := rfl
theorem exec_shaAbsy :
    exec (.shaAbsy w) s = runInstr 0x9F (shSeq (addrAbsIndexed (.word w) .y) .y sourceSha) s := rfl
theorem exec_ldyImm : exec (.ldyImm b) s = runInstr 0xA0 (immediateSeq (.byte b) opLdy) s := rfl
theorem exec_ldaIzx : exec (.ldaIzx b) s = runInstr 0xA1 (readSeq (addrIzx (.byte b)) opLda) s := rfl
theorem exec_ldxImm : exec (.ldxImm b) s = runInstr 0xA2 (immediateSeq (.byte b) opLdx) s := rfl
theorem exec_laxIzx : exec (.laxIzx b) s = runInstr 0xA3 (readSeq (addrIzx (.byte b)) opLax) s := rfl
theorem exec_ldyZp : exec (.ldyZp b) s = runInstr 0xA4 (readSeq (addrZp (.byte b)) opLdy) s := rfl
theorem exec_ldaZp : exec (.ldaZp b) s = runInstr 0xA5 (readSeq (addrZp (.byte b)) opLda) s := rfl
theorem exec_ldxZp : exec (.ldxZp b) s = runInstr 0xA6 (readSeq (addrZp (.byte b)) opLdx) s := rfl
theorem exec_laxZp : exec (.laxZp b) s = runInstr 0xA7 (readSeq (addrZp (.byte b)) opLax) s := rfl
theorem exec_tay : exec .tay s = runInstr 0xA8 (impliedSeq opTay) s := rfl
theorem exec_ldaImm : exec (.ldaImm b) s = runInstr 0xA9 (immediateSeq (.byte b) opLda) s := rfl
theorem exec_tax : exec .tax s = runInstr 0xAA (impliedSeq opTax) s := rfl
theorem exec_lxaImm : exec (.lxaImm b) s = runInstr 0xAB (immediateSeq (.byte b) opLxa) s := rfl
theorem exec_ldyAbs : exec (.ldyAbs w) s = runInstr 0xAC (readSeq (addrAbs (.word w)) opLdy) s := rfl
theorem exec_ldaAbs : exec (.ldaAbs w) s = runInstr 0xAD (readSeq (addrAbs (.word w)) opLda) s := rfl
theorem exec_ldxAbs : exec (.ldxAbs w) s = runInstr 0xAE (readSeq (addrAbs (.word w)) opLdx) s := rfl
theorem exec_laxAbs : exec (.laxAbs w) s = runInstr 0xAF (readSeq (addrAbs (.word w)) opLax) s := rfl
theorem exec_bcs : exec (.bcs b) s = runInstr 0xB0 (branchSeq (.byte b) .c true) s := rfl
theorem exec_ldaIzy : exec (.ldaIzy b) s = runInstr 0xB1 (readIzySeq (.byte b) opLda) s := rfl
theorem exec_jamB2 : exec .jamB2 s = runInstr 0xB2 (jamSeq) s := rfl
theorem exec_laxIzy : exec (.laxIzy b) s = runInstr 0xB3 (readIzySeq (.byte b) opLax) s := rfl
theorem exec_ldyZpx : exec (.ldyZpx b) s = runInstr 0xB4 (readSeq (addrZpIndexed (.byte b) .x) opLdy) s := rfl
theorem exec_ldaZpx : exec (.ldaZpx b) s = runInstr 0xB5 (readSeq (addrZpIndexed (.byte b) .x) opLda) s := rfl
theorem exec_ldxZpy : exec (.ldxZpy b) s = runInstr 0xB6 (readSeq (addrZpIndexed (.byte b) .y) opLdx) s := rfl
theorem exec_laxZpy : exec (.laxZpy b) s = runInstr 0xB7 (readSeq (addrZpIndexed (.byte b) .y) opLax) s := rfl
theorem exec_clv : exec .clv s = runInstr 0xB8 (impliedSeq fun s => s.setFlag .v false) s := rfl
theorem exec_ldaAbsy : exec (.ldaAbsy w) s = runInstr 0xB9 (readAbsIndexedSeq (.word w) .y opLda) s := rfl
theorem exec_tsx : exec .tsx s = runInstr 0xBA (impliedSeq opTsx) s := rfl
theorem exec_lasAbsy : exec (.lasAbsy w) s = runInstr 0xBB (readAbsIndexedSeq (.word w) .y opLas) s := rfl
theorem exec_ldyAbsx : exec (.ldyAbsx w) s = runInstr 0xBC (readAbsIndexedSeq (.word w) .x opLdy) s := rfl
theorem exec_ldaAbsx : exec (.ldaAbsx w) s = runInstr 0xBD (readAbsIndexedSeq (.word w) .x opLda) s := rfl
theorem exec_ldxAbsy : exec (.ldxAbsy w) s = runInstr 0xBE (readAbsIndexedSeq (.word w) .y opLdx) s := rfl
theorem exec_laxAbsy : exec (.laxAbsy w) s = runInstr 0xBF (readAbsIndexedSeq (.word w) .y opLax) s := rfl
theorem exec_cpyImm : exec (.cpyImm b) s = runInstr 0xC0 (immediateSeq (.byte b) opCpy) s := rfl
theorem exec_cmpIzx : exec (.cmpIzx b) s = runInstr 0xC1 (readSeq (addrIzx (.byte b)) opCmp) s := rfl
theorem exec_nopImmC2 : exec (.nopImmC2 b) s = runInstr 0xC2 (immediateSeq (.byte b) opNop) s := rfl
theorem exec_dcpIzx : exec (.dcpIzx b) s = runInstr 0xC3 (rmwSeq (addrIzx (.byte b)) modifyDcp) s := rfl
theorem exec_cpyZp : exec (.cpyZp b) s = runInstr 0xC4 (readSeq (addrZp (.byte b)) opCpy) s := rfl
theorem exec_cmpZp : exec (.cmpZp b) s = runInstr 0xC5 (readSeq (addrZp (.byte b)) opCmp) s := rfl
theorem exec_decZp : exec (.decZp b) s = runInstr 0xC6 (rmwSeq (addrZp (.byte b)) decByte) s := rfl
theorem exec_dcpZp : exec (.dcpZp b) s = runInstr 0xC7 (rmwSeq (addrZp (.byte b)) modifyDcp) s := rfl
theorem exec_iny : exec .iny s = runInstr 0xC8 (impliedSeq opIny) s := rfl
theorem exec_cmpImm : exec (.cmpImm b) s = runInstr 0xC9 (immediateSeq (.byte b) opCmp) s := rfl
theorem exec_dex : exec .dex s = runInstr 0xCA (impliedSeq opDex) s := rfl
theorem exec_sbxImm : exec (.sbxImm b) s = runInstr 0xCB (immediateSeq (.byte b) opSbx) s := rfl
theorem exec_cpyAbs : exec (.cpyAbs w) s = runInstr 0xCC (readSeq (addrAbs (.word w)) opCpy) s := rfl
theorem exec_cmpAbs : exec (.cmpAbs w) s = runInstr 0xCD (readSeq (addrAbs (.word w)) opCmp) s := rfl
theorem exec_decAbs : exec (.decAbs w) s = runInstr 0xCE (rmwSeq (addrAbs (.word w)) decByte) s := rfl
theorem exec_dcpAbs : exec (.dcpAbs w) s = runInstr 0xCF (rmwSeq (addrAbs (.word w)) modifyDcp) s := rfl
theorem exec_bne : exec (.bne b) s = runInstr 0xD0 (branchSeq (.byte b) .z false) s := rfl
theorem exec_cmpIzy : exec (.cmpIzy b) s = runInstr 0xD1 (readIzySeq (.byte b) opCmp) s := rfl
theorem exec_jamD2 : exec .jamD2 s = runInstr 0xD2 (jamSeq) s := rfl
theorem exec_dcpIzy : exec (.dcpIzy b) s = runInstr 0xD3 (rmwSeq (addrIzy (.byte b)) modifyDcp) s := rfl
theorem exec_nopZpxD4 : exec (.nopZpxD4 b) s = runInstr 0xD4 (readSeq (addrZpIndexed (.byte b) .x) opNop) s := rfl
theorem exec_cmpZpx : exec (.cmpZpx b) s = runInstr 0xD5 (readSeq (addrZpIndexed (.byte b) .x) opCmp) s := rfl
theorem exec_decZpx : exec (.decZpx b) s = runInstr 0xD6 (rmwSeq (addrZpIndexed (.byte b) .x) decByte) s := rfl
theorem exec_dcpZpx : exec (.dcpZpx b) s = runInstr 0xD7 (rmwSeq (addrZpIndexed (.byte b) .x) modifyDcp) s := rfl
theorem exec_cld : exec .cld s = runInstr 0xD8 (impliedSeq fun s => s.setFlag .d false) s := rfl
theorem exec_cmpAbsy : exec (.cmpAbsy w) s = runInstr 0xD9 (readAbsIndexedSeq (.word w) .y opCmp) s := rfl
theorem exec_nopImpDA : exec .nopImpDA s = runInstr 0xDA (impliedSeq id) s := rfl
theorem exec_dcpAbsy : exec (.dcpAbsy w) s = runInstr 0xDB (rmwSeq (addrAbsIndexed (.word w) .y) modifyDcp) s := rfl
theorem exec_nopAbsxDC : exec (.nopAbsxDC w) s = runInstr 0xDC (readAbsIndexedSeq (.word w) .x opNop) s := rfl
theorem exec_cmpAbsx : exec (.cmpAbsx w) s = runInstr 0xDD (readAbsIndexedSeq (.word w) .x opCmp) s := rfl
theorem exec_decAbsx : exec (.decAbsx w) s = runInstr 0xDE (rmwSeq (addrAbsIndexed (.word w) .x) decByte) s := rfl
theorem exec_dcpAbsx : exec (.dcpAbsx w) s = runInstr 0xDF (rmwSeq (addrAbsIndexed (.word w) .x) modifyDcp) s := rfl
theorem exec_cpxImm : exec (.cpxImm b) s = runInstr 0xE0 (immediateSeq (.byte b) opCpx) s := rfl
theorem exec_sbcIzx : exec (.sbcIzx b) s = runInstr 0xE1 (readSeq (addrIzx (.byte b)) opSbc) s := rfl
theorem exec_nopImmE2 : exec (.nopImmE2 b) s = runInstr 0xE2 (immediateSeq (.byte b) opNop) s := rfl
theorem exec_iscIzx : exec (.iscIzx b) s = runInstr 0xE3 (rmwSeq (addrIzx (.byte b)) modifyIsc) s := rfl
theorem exec_cpxZp : exec (.cpxZp b) s = runInstr 0xE4 (readSeq (addrZp (.byte b)) opCpx) s := rfl
theorem exec_sbcZp : exec (.sbcZp b) s = runInstr 0xE5 (readSeq (addrZp (.byte b)) opSbc) s := rfl
theorem exec_incZp : exec (.incZp b) s = runInstr 0xE6 (rmwSeq (addrZp (.byte b)) incByte) s := rfl
theorem exec_iscZp : exec (.iscZp b) s = runInstr 0xE7 (rmwSeq (addrZp (.byte b)) modifyIsc) s := rfl
theorem exec_inx : exec .inx s = runInstr 0xE8 (impliedSeq opInx) s := rfl
theorem exec_sbcImm : exec (.sbcImm b) s = runInstr 0xE9 (immediateSeq (.byte b) opSbc) s := rfl
theorem exec_nop : exec .nop s = runInstr 0xEA (impliedSeq id) s := rfl
theorem exec_usbcImm : exec (.usbcImm b) s = runInstr 0xEB (immediateSeq (.byte b) opSbc) s := rfl
theorem exec_cpxAbs : exec (.cpxAbs w) s = runInstr 0xEC (readSeq (addrAbs (.word w)) opCpx) s := rfl
theorem exec_sbcAbs : exec (.sbcAbs w) s = runInstr 0xED (readSeq (addrAbs (.word w)) opSbc) s := rfl
theorem exec_incAbs : exec (.incAbs w) s = runInstr 0xEE (rmwSeq (addrAbs (.word w)) incByte) s := rfl
theorem exec_iscAbs : exec (.iscAbs w) s = runInstr 0xEF (rmwSeq (addrAbs (.word w)) modifyIsc) s := rfl
theorem exec_beq : exec (.beq b) s = runInstr 0xF0 (branchSeq (.byte b) .z true) s := rfl
theorem exec_sbcIzy : exec (.sbcIzy b) s = runInstr 0xF1 (readIzySeq (.byte b) opSbc) s := rfl
theorem exec_jamF2 : exec .jamF2 s = runInstr 0xF2 (jamSeq) s := rfl
theorem exec_iscIzy : exec (.iscIzy b) s = runInstr 0xF3 (rmwSeq (addrIzy (.byte b)) modifyIsc) s := rfl
theorem exec_nopZpxF4 : exec (.nopZpxF4 b) s = runInstr 0xF4 (readSeq (addrZpIndexed (.byte b) .x) opNop) s := rfl
theorem exec_sbcZpx : exec (.sbcZpx b) s = runInstr 0xF5 (readSeq (addrZpIndexed (.byte b) .x) opSbc) s := rfl
theorem exec_incZpx : exec (.incZpx b) s = runInstr 0xF6 (rmwSeq (addrZpIndexed (.byte b) .x) incByte) s := rfl
theorem exec_iscZpx : exec (.iscZpx b) s = runInstr 0xF7 (rmwSeq (addrZpIndexed (.byte b) .x) modifyIsc) s := rfl
theorem exec_sed : exec .sed s = runInstr 0xF8 (impliedSeq fun s => s.setFlag .d true) s := rfl
theorem exec_sbcAbsy : exec (.sbcAbsy w) s = runInstr 0xF9 (readAbsIndexedSeq (.word w) .y opSbc) s := rfl
theorem exec_nopImpFA : exec .nopImpFA s = runInstr 0xFA (impliedSeq id) s := rfl
theorem exec_iscAbsy : exec (.iscAbsy w) s = runInstr 0xFB (rmwSeq (addrAbsIndexed (.word w) .y) modifyIsc) s := rfl
theorem exec_nopAbsxFC : exec (.nopAbsxFC w) s = runInstr 0xFC (readAbsIndexedSeq (.word w) .x opNop) s := rfl
theorem exec_sbcAbsx : exec (.sbcAbsx w) s = runInstr 0xFD (readAbsIndexedSeq (.word w) .x opSbc) s := rfl
theorem exec_incAbsx : exec (.incAbsx w) s = runInstr 0xFE (rmwSeq (addrAbsIndexed (.word w) .x) incByte) s := rfl
theorem exec_iscAbsx : exec (.iscAbsx w) s = runInstr 0xFF (rmwSeq (addrAbsIndexed (.word w) .x) modifyIsc) s := rfl

end exec

end Sys2Proof.Machine
end

