-- ==== Sys2Proof/Laws/Frames.lean ====
section
/-! SUPPORT. What no operation of an instruction touches, and what the end of a sequence therefore shows: PC, the
    bus log, the scratch registers, the latches and memory. -/

namespace Sys2Proof.Machine

/-- `t` is `s` but for A, X, Y, S and P. -/
structure KeepsRest (s t : State) : Prop where
  pc : t.pc = s.pc
  al : t.al = s.al
  ah : t.ah = s.ah
  operand : t.operand = s.operand
  opCode : t.opCode = s.opCode
  opCodeCycle : t.opCodeCycle = s.opCodeCycle
  irqLevelDetector : t.irqLevelDetector = s.irqLevelDetector
  irqSignal : t.irqSignal = s.irqSignal
  nmiEdgeDetector : t.nmiEdgeDetector = s.nmiEdgeDetector
  nmiSignal : t.nmiSignal = s.nmiSignal
  decimalEnabled : t.decimalEnabled = s.decimalEnabled
  platform : t.platform = s.platform
  past : t.past = s.past
  bus : t.bus = s.bus

/-- An operation that touches A, X, Y, S and P alone. -/
abbrev ReadOp.KeepsRest (f : ReadOp) : Prop := ∀ v s, Machine.KeepsRest s (f v s)

theorem KeepsRest.of_eq {s t : State} (a x y sp p : Byte)
    (h : t = { s with a := a, x := x, y := y, sp := sp, p := p }) : KeepsRest s t := by
  subst h; exact ⟨rfl, rfl, rfl, rfl, rfl, rfl, rfl, rfl, rfl, rfl, rfl, rfl, rfl, rfl⟩

theorem KeepsRest.trans {s t u : State} (h : KeepsRest s t) (k : KeepsRest t u) : KeepsRest s u :=
  ⟨k.pc.trans h.pc, k.al.trans h.al, k.ah.trans h.ah, k.operand.trans h.operand, k.opCode.trans h.opCode,
    k.opCodeCycle.trans h.opCodeCycle, k.irqLevelDetector.trans h.irqLevelDetector, k.irqSignal.trans h.irqSignal,
    k.nmiEdgeDetector.trans h.nmiEdgeDetector, k.nmiSignal.trans h.nmiSignal, k.decimalEnabled.trans
    h.decimalEnabled, k.platform.trans h.platform, k.past.trans h.past, k.bus.trans h.bus⟩

theorem keepsRest_refl (s : State) : KeepsRest s s := ⟨rfl, rfl, rfl, rfl, rfl, rfl, rfl, rfl, rfl, rfl, rfl, rfl, rfl, rfl⟩
theorem keepsRest_id (s : State) : KeepsRest s (id s) := keepsRest_refl s
theorem keepsRest_setFlag (s : State) (f : Flag) (v : Bool) : KeepsRest s (s.setFlag f v) := .of_eq _ _ _ _ _ rfl
theorem keepsRest_setZN (s : State) (v : Byte) : KeepsRest s (s.setZN v) := .of_eq _ _ _ _ _ rfl
theorem keepsRest_setAlu (s : State) (r : AluResult) : KeepsRest s (s.setAlu r) := .of_eq _ _ _ _ _ rfl
theorem keepsRest_compare (s : State) (r v : Byte) : KeepsRest s (s.compare r v) := .of_eq _ _ _ _ _ rfl
theorem keepsRest_setStatus (s : State) (v : Byte) : KeepsRest s (s.setStatus v) := .of_eq _ _ _ _ _ rfl
theorem keepsRest_opLda : ReadOp.KeepsRest opLda := fun _ _ => .of_eq _ _ _ _ _ rfl
theorem keepsRest_opLdx : ReadOp.KeepsRest opLdx := fun _ _ => .of_eq _ _ _ _ _ rfl
theorem keepsRest_opLdy : ReadOp.KeepsRest opLdy := fun _ _ => .of_eq _ _ _ _ _ rfl
theorem keepsRest_opAdc : ReadOp.KeepsRest opAdc := fun _ _ => .of_eq _ _ _ _ _ rfl
theorem keepsRest_opSbc : ReadOp.KeepsRest opSbc := fun _ _ => .of_eq _ _ _ _ _ rfl
theorem keepsRest_opAnd : ReadOp.KeepsRest opAnd := fun _ _ => .of_eq _ _ _ _ _ rfl
theorem keepsRest_opOra : ReadOp.KeepsRest opOra := fun _ _ => .of_eq _ _ _ _ _ rfl
theorem keepsRest_opEor : ReadOp.KeepsRest opEor := fun _ _ => .of_eq _ _ _ _ _ rfl
theorem keepsRest_opBit : ReadOp.KeepsRest opBit := fun _ _ => .of_eq _ _ _ _ _ rfl
theorem keepsRest_opCmp : ReadOp.KeepsRest opCmp := fun _ _ => .of_eq _ _ _ _ _ rfl
theorem keepsRest_opCpx : ReadOp.KeepsRest opCpx := fun _ _ => .of_eq _ _ _ _ _ rfl
theorem keepsRest_opCpy : ReadOp.KeepsRest opCpy := fun _ _ => .of_eq _ _ _ _ _ rfl
theorem keepsRest_opLax : ReadOp.KeepsRest opLax := fun _ _ => .of_eq _ _ _ _ _ rfl
theorem keepsRest_opAnc : ReadOp.KeepsRest opAnc := fun _ _ => .of_eq _ _ _ _ _ rfl
theorem keepsRest_opAlr : ReadOp.KeepsRest opAlr := fun _ _ => .of_eq _ _ _ _ _ rfl
theorem keepsRest_opArr : ReadOp.KeepsRest opArr := fun _ _ => .of_eq _ _ _ _ _ rfl
theorem keepsRest_opAne : ReadOp.KeepsRest opAne := fun _ _ => .of_eq _ _ _ _ _ rfl
theorem keepsRest_opLxa : ReadOp.KeepsRest opLxa := fun _ _ => .of_eq _ _ _ _ _ rfl
theorem keepsRest_opSbx : ReadOp.KeepsRest opSbx := fun _ _ => .of_eq _ _ _ _ _ rfl
theorem keepsRest_opLas : ReadOp.KeepsRest opLas := fun _ _ => .of_eq _ _ _ _ _ rfl
theorem keepsRest_opNop : ReadOp.KeepsRest opNop := fun _ _ => .of_eq _ _ _ _ _ rfl
theorem keepsRest_opTax (s : State) : KeepsRest s (opTax s) := .of_eq _ _ _ _ _ rfl
theorem keepsRest_opTay (s : State) : KeepsRest s (opTay s) := .of_eq _ _ _ _ _ rfl
theorem keepsRest_opTxa (s : State) : KeepsRest s (opTxa s) := .of_eq _ _ _ _ _ rfl
theorem keepsRest_opTya (s : State) : KeepsRest s (opTya s) := .of_eq _ _ _ _ _ rfl
theorem keepsRest_opTsx (s : State) : KeepsRest s (opTsx s) := .of_eq _ _ _ _ _ rfl
theorem keepsRest_opTxs (s : State) : KeepsRest s (opTxs s) := .of_eq _ _ _ _ _ rfl
theorem keepsRest_opInx (s : State) : KeepsRest s (opInx s) := .of_eq _ _ _ _ _ rfl
theorem keepsRest_opIny (s : State) : KeepsRest s (opIny s) := .of_eq _ _ _ _ _ rfl
theorem keepsRest_opDex (s : State) : KeepsRest s (opDex s) := .of_eq _ _ _ _ _ rfl
theorem keepsRest_opDey (s : State) : KeepsRest s (opDey s) := .of_eq _ _ _ _ _ rfl
theorem keepsRest_aslByte (v : Byte) (s : State) : KeepsRest s (aslByte v s).2 := .of_eq _ _ _ _ _ rfl
theorem keepsRest_lsrByte (v : Byte) (s : State) : KeepsRest s (lsrByte v s).2 := .of_eq _ _ _ _ _ rfl
theorem keepsRest_rolByte (v : Byte) (s : State) : KeepsRest s (rolByte v s).2 := .of_eq _ _ _ _ _ rfl
theorem keepsRest_rorByte (v : Byte) (s : State) : KeepsRest s (rorByte v s).2 := .of_eq _ _ _ _ _ rfl
theorem keepsRest_incByte (v : Byte) (s : State) : KeepsRest s (incByte v s).2 := .of_eq _ _ _ _ _ rfl
theorem keepsRest_decByte (v : Byte) (s : State) : KeepsRest s (decByte v s).2 := .of_eq _ _ _ _ _ rfl
theorem keepsRest_modifySlo (v : Byte) (s : State) : KeepsRest s (modifySlo v s).2 := .of_eq _ _ _ _ _ rfl
theorem keepsRest_modifyRla (v : Byte) (s : State) : KeepsRest s (modifyRla v s).2 := .of_eq _ _ _ _ _ rfl
theorem keepsRest_modifySre (v : Byte) (s : State) : KeepsRest s (modifySre v s).2 := .of_eq _ _ _ _ _ rfl
theorem keepsRest_modifyRra (v : Byte) (s : State) : KeepsRest s (modifyRra v s).2 := .of_eq _ _ _ _ _ rfl
theorem keepsRest_modifyDcp (v : Byte) (s : State) : KeepsRest s (modifyDcp v s).2 := .of_eq _ _ _ _ _ rfl
theorem keepsRest_modifyIsc (v : Byte) (s : State) : KeepsRest s (modifyIsc v s).2 := .of_eq _ _ _ _ _ rfl

/-! The flags that SLO, RLA and SRE leave, as updates of P alone. -/

theorem modifySlo_flag (v : Byte) (s : State) (g : Flag) :
    (modifySlo v s).2.flag g =
      (((s.setFlag .c (v.getLsbD 7)).setZN (v <<< 1)).setZN (s.a ||| v <<< 1)).flag g := rfl

theorem modifyRla_flag (v : Byte) (s : State) (g : Flag) :
    (modifyRla v s).2.flag g =
      (((s.setFlag .c (v.getLsbD 7)).setZN (rolByte v s).1).setZN (s.a &&& (rolByte v s).1)).flag g := rfl

theorem modifySre_flag (v : Byte) (s : State) (g : Flag) :
    (modifySre v s).2.flag g =
      (((s.setFlag .c (v.getLsbD 0)).setZN (v >>> 1)).setZN (s.a ^^^ v >>> 1)).flag g := rfl

/-! What an unchanged or a written environment reads as. -/

section memory
variable {s t : State}

/-- An environment that has taken no write keeps every byte. -/
theorem keepsMemory_of (h : t.platform = s.platform) : KeepsMemory s t :=
  ⟨h, fun hp q => by rw [State.peek, State.peek, h]; exact Platform.read_passive _ hp _ _ q⟩

/-- An environment that has taken the writes `ws` holds them. -/
theorem writes_of {ws : List (Addr × Byte)} (h : t.platform = s.platform.after (ws.map fun c => .write c.1 c.2)) :
    Writes ws s t :=
  ⟨h, fun hr q => by rw [State.peek, State.peek, h]; exact Platform.read_after_ram ws _ hr _ _ q⟩

end memory

/-! How many accesses lead to an operand (R142 to R155). -/

/-- The accesses up to the address of a mode. -/
def Mode.reach : Mode → Nat
  | .zp _ => 2
  | .zpIndexed _ _ => 3
  | .abs _ => 3
  | .absIndexed _ _ => 3
  | .izx _ => 5
  | .izy _ => 4

section lengths
variable (m : Mode) (o : Source) (s : State) (i : Instr)

@[simp] theorem Mode.fetches_length : (m.fetches s i).length = m.reach := by
  cases m <;> simp [Mode.fetches, Mode.reach, State.readPointer]

@[simp] theorem Mode.leads_length :
    (m.leads s i).length = m.reach + (if (m.indexed s i).isSome then 1 else 0) := by
  unfold Mode.leads
  split <;> simp [*]

@[simp] theorem Mode.leadsToRead_length : (m.leadsToRead s i).length = m.reach + m.extra s i := by
  unfold Mode.leadsToRead Mode.extra
  cases m.indexed s i with
  | none => simp
  | some c =>
    show (if carries c.1 c.2 then _ else _ : List BusAccess).length = _ + if carries c.1 c.2 then 1 else 0
    split <;> simp

@[simp] theorem Mode.rmwLeads_length : (m.rmwLeads s i).length = (m.leads s i).length + 2 := by
  simp [Mode.rmwLeads]

@[simp] theorem Source.trace_length_mem :
    (Source.trace (.mem m) s i).length = m.reach + m.extra s i + 1 := by simp [Source.trace]

end lengths

/-! Reads lead to an operand: they leave the environment. -/

section leads
variable (m : Mode) (o : Source) (s : State) (i : Instr)

@[simp] theorem Mode.after_fetches : s.platform.after (m.fetches s i) = s.platform := by
  cases m <;> simp [Mode.fetches, State.readPointer]

@[simp] theorem Mode.after_leads : s.platform.after (m.leads s i) = s.platform := by
  unfold Mode.leads
  split <;> simp

@[simp] theorem Mode.after_leadsToRead : s.platform.after (m.leadsToRead s i) = s.platform := by
  unfold Mode.leadsToRead
  split
  · split <;> simp
  · simp

@[simp] theorem Source.after_trace : s.platform.after (o.trace s i) = s.platform := by
  cases o with
  | imm b => rfl
  | mem m => simp [Source.trace]

theorem Mode.after_rmwLeads :
    s.platform.after (m.rmwLeads s i) = s.platform.write (m.ea s i) (m.modified s i) := by
  simp [Mode.rmwLeads]

end leads

/-! The end of a sequence whose operation keeps the rest. -/

section ends
variable {s q : State} {op al ah o : Byte} {n : Addr} {l : List BusAccess}

/-- PC moved on, the accesses logged, the scratch registers as the sequence leaves them, the latches polled, and the
environment as the accesses leave it. -/
theorem KeepsRest.ends (h : KeepsRest (s.progressed op n al ah o l) q) :
    q.settled.pc = s.pc + n ∧ q.settled.bus = l ∧ q.settled.opCode = .op op ∧ Completes s q.settled ∧
      q.settled.platform = s.platform.after l ∧ q.settled.al = al ∧ q.settled.ah = ah ∧ q.settled.operand = o :=
  ⟨h.pc.trans (State.progressed_pc ..), h.bus, h.opCode,
    ⟨rfl, h.irqLevelDetector, h.decimalEnabled, h.irqLevelDetector,
      (congrArg₂ or h.nmiSignal h.nmiEdgeDetector : (q.nmiSignal || q.nmiEdgeDetector) = _), rfl, h.past,
      h.platform.trans (congrArg s.platform.after h.bus.symm)⟩,
    h.platform, h.al, h.ah, h.operand⟩

/-- The end of an RMW instruction: the modified byte `r` at its effective address, and nothing else written. -/
theorem KeepsRest.rmw_ends {i : Instr} {m : Mode} (h : KeepsRest (rmwRead i m s n) q) (r : Byte) :
    let t := (q.rmwWritten (m.ea s i) r).settled
    t.pc = s.pc + n ∧ t.bus = m.rmwLeads s i ++ [.write (m.ea s i) r] ∧ t.opCode = .op (opcodeOf i) ∧
      Completes s t ∧ ModifiesByte m i r s t ∧ t.al = lo8 (m.ea s i) ∧ t.ah = hi8 (m.ea s i) ∧ t.operand = r := by
  have hb : q.bus ++ [.write (m.ea s i) r] = m.rmwLeads s i ++ [.write (m.ea s i) r] := by rw [h.bus]; rfl
  have hp : q.platform.write (m.ea s i) r = (s.platform.write (m.ea s i) (m.modified s i)).write (m.ea s i) r :=
    congrArg (Platform.write · (m.ea s i) r) (h.platform.trans (m.after_rmwLeads s i))
  have hn : (q.nmiSignal || q.nmiEdgeDetector) = (s.nmiSignal || s.nmiEdgeDetector) := by
    rw [h.nmiSignal, h.nmiEdgeDetector]; rfl
  refine ⟨h.pc.trans (wordOf_hi8_lo8 (s.pc + n)), hb, h.opCode,
    ⟨rfl, h.irqLevelDetector, h.decimalEnabled, h.irqLevelDetector, hn, rfl, h.past, ?_⟩,
    ⟨writes_of hp, ?_⟩, h.al, h.ah, rfl⟩
  · show q.platform.write (m.ea s i) r = s.platform.after (q.bus ++ [.write (m.ea s i) r])
    rw [hp, hb, Platform.after_append, Mode.after_rmwLeads]
    rfl
  · show (q.bus ++ [BusAccess.write (m.ea s i) r]).getLast? = _
    rw [List.getLast?_append]
    rfl

/-- The end of a write instruction, whose last access writes `v` at `ea`. -/
theorem write_ends (hl : s.platform.after l = s.platform) (ea : Addr) (v : Byte) :
    let t := (s.progressed op n al ah o (l ++ [.write ea v])).settled
    t.pc = s.pc + n ∧ t.bus.length = l.length + 1 ∧ t.opCode = .op op ∧ Completes s t ∧ StoresByte ea v s t := by
  refine ⟨State.progressed_pc s op n al ah o (l ++ [.write ea v]), ?_, rfl, ⟨rfl, rfl, rfl, rfl, rfl, rfl, rfl, rfl⟩, writes_of ?_, ?_⟩
  · show (l ++ [BusAccess.write ea v]).length = _
    rw [List.length_append]
    rfl
  · show s.platform.after (l ++ [.write ea v]) = _
    rw [Platform.after_append, hl]
    rfl
  · show (l ++ [BusAccess.write ea v]).getLast? = _
    rw [List.getLast?_append]
    rfl

end ends

end Sys2Proof.Machine
end

