-- ==== Sys2Proof/Laws/Interrupts.lean ====
section
/-! SUPPORT. The stack slots, and everything that entering BRK's or an interrupt's handler does (R387, R284), and the step after a BRK with an NMI edge set (log 23). -/

namespace Sys2Proof.Machine

/-- Slots below S at different depths are different addresses (R80). -/
theorem slot_ne (x a b : Byte) (h : a ≠ b) : wordOf 0x01 (x - a) ≠ wordOf 0x01 (x - b) := by
  intro e
  have e' := congrArg BitVec.toNat (wordOf_inj.1 e).2
  have hn : a.toNat ≠ b.toNat := fun e => h (BitVec.eq_of_toNat_eq e)
  have := x.isLt
  have := a.isLt
  have := b.isLt
  rw [BitVec.toNat_sub, BitVec.toNat_sub] at e'
  omega

/-- The slot at S and one below it are different addresses. -/
theorem slot_ne_zero (x a : Byte) (h : a ≠ 0) : wordOf 0x01 (x - a) ≠ wordOf 0x01 x := by
  have e := slot_ne x a 0 h
  rwa [show x - 0 = x from BitVec.sub_zero x] at e

section entered
variable (p s : State) (l : List BusAccess) (b : Bool) (v : Addr)

/-- The accesses of an interrupt entry: three pushes, and the two reads of the vector. -/
theorem interruptEntered_bus :
    (interruptEntered p s l b v).bus = s.thenReads (l ++ pushedThree p b) [v, v + 1] := rfl

theorem interruptEntered_platform (h : s.platform.after l = s.platform) :
    (interruptEntered p s l b v).platform = s.platform.after (pushedThree p b) := by
  show s.platform.after (s.thenReads _ _) = _
  rw [Platform.after_thenReads, Platform.after_append, h]

@[simp] theorem interruptEntered_past : (interruptEntered p s l b v).past = s.history := rfl
@[simp] theorem interruptEntered_a : (interruptEntered p s l b v).a = p.a := rfl
@[simp] theorem interruptEntered_x : (interruptEntered p s l b v).x = p.x := rfl
@[simp] theorem interruptEntered_y : (interruptEntered p s l b v).y = p.y := rfl
@[simp] theorem interruptEntered_sp : (interruptEntered p s l b v).sp = p.sp - 3 := rfl
@[simp] theorem interruptEntered_al : (interruptEntered p s l b v).al = p.al := rfl
@[simp] theorem interruptEntered_ah : (interruptEntered p s l b v).ah = p.ah := rfl
@[simp] theorem interruptEntered_operand : (interruptEntered p s l b v).operand = p.operand := rfl
@[simp] theorem interruptEntered_opCode : (interruptEntered p s l b v).opCode = p.opCode := rfl
@[simp] theorem interruptEntered_opCodeCycle : (interruptEntered p s l b v).opCodeCycle = p.opCodeCycle := rfl
@[simp] theorem interruptEntered_irqLevelDetector :
    (interruptEntered p s l b v).irqLevelDetector = p.irqLevelDetector := rfl
@[simp] theorem interruptEntered_irqSignal : (interruptEntered p s l b v).irqSignal = p.irqSignal := rfl
@[simp] theorem interruptEntered_nmiEdgeDetector :
    (interruptEntered p s l b v).nmiEdgeDetector = p.nmiEdgeDetector := rfl
@[simp] theorem interruptEntered_nmiSignal : (interruptEntered p s l b v).nmiSignal = p.nmiSignal := rfl
@[simp] theorem interruptEntered_decimalEnabled :
    (interruptEntered p s l b v).decimalEnabled = p.decimalEnabled := rfl
@[simp] theorem interruptEntered_pc :
    (interruptEntered p s l b v).pc =
      wordOf (s.answer (s.thenRead (l ++ pushedThree p b) v) (v + 1)) (s.answer (l ++ pushedThree p b) v) :=
  wordOf_hi8_lo8 _
@[simp] theorem interruptEntered_flag (g : Flag) :
    (interruptEntered p s l b v).flag g = if Flag.i = g then true else p.flag g := by
  show (State.setFlag p .i true).flag g = _
  simp

end entered

/-- An NMI and a BRK (log 23). An edge that BRK's poll finds is dispatched by the next c0 (R136, R133); an edge set after
that poll is not, and the handler's first instruction runs (R393, R395). -/
theorem step_after_brk (s : State) (hn : s.nmiSignal = false) :
    ∃ t, exec .brk s = .next t ∧
      (s.nmiEdgeDetector = true → step t = .next t.takeInterrupt) ∧
      (s.nmiEdgeDetector = false → step t.setNmi = exec t.setNmi.fetchInstr t.setNmi) := by
  let u := interruptEntered (s.implied .brk 2) s (fetchImplied s .brk) true irqVector
  have hn' : u.nmiSignal = false := hn
  have he' : u.nmiEdgeDetector = s.nmiEdgeDetector := rfl
  have hi : u.flag .i = true := by simp [u]
  refine ⟨u.settled, (exec_brk s).trans (run_brk .brk s), fun he => ?_, fun he => ?_⟩
  · simp [step, State.interruptPending, hn', he', he]
  · simp [step, State.interruptPending, hn', he', he, hi]

end Sys2Proof.Machine
end

