-- ==== Sys2Proof/Laws/Launch.lean ====
section
/-! SUPPORT. The end of a run (R433): what runToEnd answers is the first boundary that is an end, and it finds every such boundary. -/

namespace Sys2Proof.Machine

/-- `t` is reached from `s` after `n` Ticks with the events of `es` before them, and is the first end at `e` on the way. -/
def EndsAfter (e : Addr) (es : List (List HostEvent)) (s : State) (n : Nat) (t : State) : Prop :=
  n ≤ es.length ∧ ticksWithEvents (es.take n) s = .next t ∧ t.atEnd e ∧
    ∀ m < n, ∀ u, ticksWithEvents (es.take m) s = .next u → ¬ u.atEnd e

/-- A run of more Ticks starts with the first. -/
theorem ticksWithEvents_cons {events : List HostEvent} {s s' : State} (h : tick (events.foldl State.event s) = .next s')
    (es : List (List HostEvent)) : ticksWithEvents (events :: es) s = ticksWithEvents es s' := by
  simp only [ticksWithEvents, h]

/-- runToEnd answers exactly the end of the run (R433). -/
theorem runToEnd_iff (e : Addr) : ∀ (es : List (List HostEvent)) (s : State) (n : Nat) (t : State),
    runToEnd e es s = some (n, t) ↔ EndsAfter e es s n t
  | [], s, n, t => by
    by_cases h : s.atEnd e
    · rw [runToEnd, if_pos h]
      constructor
      · intro h'
        cases h'
        exact ⟨Nat.le_refl 0, rfl, h, fun m hm => absurd hm (Nat.not_lt_zero m)⟩
      · rintro ⟨hn, ht, -, -⟩
        cases Nat.le_zero.1 hn
        cases ht
        rfl
    · rw [runToEnd, if_neg h]
      constructor
      · intro h'; cases h'
      · rintro ⟨hn, ht, he, -⟩
        cases Nat.le_zero.1 hn
        cases ht
        exact absurd he h
  | events :: es, s, n, t => by
    by_cases h : s.atEnd e
    · rw [runToEnd, if_pos h]
      constructor
      · intro h'
        cases h'
        exact ⟨Nat.zero_le _, rfl, h, fun m hm => absurd hm (Nat.not_lt_zero m)⟩
      · rintro ⟨-, ht, -, hf⟩
        match n with
        | 0 => cases ht; rfl
        | n + 1 => exact absurd h (hf 0 (Nat.zero_lt_succ n) s rfl)
    · rw [runToEnd, if_neg h]
      match hk : tick (events.foldl State.event s) with
      | .fault r =>
        constructor
        · intro h'; cases h'
        · rintro ⟨-, ht, he, -⟩
          match n with
          | 0 => cases ht; exact absurd he h
          | n + 1 => rw [List.take_succ_cons, ticksWithEvents, hk] at ht; cases ht
      | .refused r =>
        constructor
        · intro h'; cases h'
        · rintro ⟨-, ht, he, -⟩
          match n with
          | 0 => cases ht; exact absurd he h
          | n + 1 => rw [List.take_succ_cons, ticksWithEvents, hk] at ht; cases ht
      | .next s' =>
        show ((runToEnd e es s').map fun r => (r.1 + 1, r.2)) = some (n, t) ↔ _
        rw [Option.map_eq_some_iff]
        constructor
        · rintro ⟨⟨m, u⟩, hr, hm⟩
          cases hm
          obtain ⟨h1, h2, h3, h4⟩ := (runToEnd_iff e es s' m u).1 hr
          refine ⟨Nat.succ_le_succ h1, ?_, h3, fun j hj u hu => ?_⟩
          · rw [List.take_succ_cons, ticksWithEvents_cons hk]; exact h2
          · match j with
            | 0 => cases hu; exact h
            | j + 1 =>
              rw [List.take_succ_cons, ticksWithEvents_cons hk] at hu
              exact h4 j (Nat.lt_of_succ_lt_succ hj) u hu
        · rintro ⟨h1, h2, h3, h4⟩
          match n with
          | 0 => cases h2; exact absurd h3 h
          | n + 1 =>
            rw [List.take_succ_cons, ticksWithEvents_cons hk] at h2
            refine ⟨(n, t), (runToEnd_iff e es s' n t).2 ⟨Nat.le_of_succ_le_succ h1, h2, h3, fun j hj u hu => ?_⟩, rfl⟩
            refine h4 (j + 1) (Nat.succ_lt_succ hj) u ?_
            rw [List.take_succ_cons, ticksWithEvents_cons hk]
            exact hu

end Sys2Proof.Machine
end

