-- ==== Sys2Proof/Laws/MicroOps.lean ====
section
/-! SUPPORT. What every cycle action of the micro-operation table does: one bus access, which the environment answers or takes, bit 5 of P still 1, and none of OpCode, OpCodeCycle, the detectors and the signals touched. -/

namespace Sys2Proof.Machine

/-- From `s` to `t` one access is made: a read with the environment's answer, or a write that the environment takes. -/
def OneAccess (s t : State) : Prop :=
  (∃ a, t.bus = s.bus ++ [.read a (s.peek a)] ∧ t.platform = s.platform) ∨
    ∃ a v, t.bus = s.bus ++ [.write a v] ∧ t.platform = s.platform.write a v

/-- One cycle action takes `s` to `t`: it makes one access, keeps bit 5 of P at 1, and touches none of OpCode,
OpCodeCycle, the detectors, the signals, DECIMAL_ENABLED and the history before the instruction. -/
structure Acts (s t : State) : Prop where
  opCode : t.opCode = s.opCode
  opCodeCycle : t.opCodeCycle = s.opCodeCycle
  decimalEnabled : t.decimalEnabled = s.decimalEnabled
  irqLevelDetector : t.irqLevelDetector = s.irqLevelDetector
  irqSignal : t.irqSignal = s.irqSignal
  nmiEdgeDetector : t.nmiEdgeDetector = s.nmiEdgeDetector
  nmiSignal : t.nmiSignal = s.nmiSignal
  past : t.past = s.past
  flagU : s.flag .u = true → t.flag .u = true
  access : OneAccess s t

theorem Acts.bus {s t : State} (h : Acts s t) : ∃ e, t.bus = s.bus ++ [e] := by
  rcases h.access with ⟨a, h, -⟩ | ⟨a, v, h, -⟩ <;> exact ⟨_, h⟩

/-- One access keeps storage canonical. -/
theorem OneAccess.wf {s t : State} (h : OneAccess s t) (hw : s.platform.wf = true) : t.platform.wf = true := by
  rcases h with ⟨a, -, h⟩ | ⟨a, v, -, h⟩ <;> rw [h]
  · exact hw
  · exact Platform.wf_write _ a v hw

theorem Acts.wf {s t : State} (h : Acts s t) (hw : s.platform.wf = true) : t.platform.wf = true := h.access.wf hw

/-- An action of the table that acts so in every state. -/
abbrev MicroOp.Good (m : MicroOp) : Prop := ∀ s, Acts s (m s).1

/-- An entry whose actions all act so. -/
abbrev Entry.Good (e : Entry) : Prop := ∀ m ∈ e.cycles, m.Good

/-- A read, with any change of the registers but P. -/
theorem Acts.of_read {s t : State} (q : Addr) (a x y sp pcl pch al ah o : Byte)
    (h : t = { s.readCycle q with a := a, x := x, y := y, sp := sp, pcl := pcl, pch := pch, al := al, ah := ah
                                  operand := o }) : Acts s t := by
  subst h; exact ⟨rfl, rfl, rfl, rfl, rfl, rfl, rfl, rfl, id, .inl ⟨q, rfl, rfl⟩⟩

/-- A write, with any change of the registers but P. -/
theorem Acts.of_write {s t : State} (q : Addr) (v a x y sp pcl pch al ah o : Byte)
    (h : t = { s.writeCycle q v with a := a, x := x, y := y, sp := sp, pcl := pcl, pch := pch, al := al, ah := ah
                                     operand := o }) : Acts s t := by
  subst h; exact ⟨rfl, rfl, rfl, rfl, rfl, rfl, rfl, rfl, id, .inr ⟨q, v, rfl, rfl⟩⟩

/-- An operation after the access: it keeps the rest, and bit 5 of P. -/
theorem Acts.then_keeps {s q t : State} (h : Acts s q) (k : KeepsRest q t)
    (hu : q.flag .u = true → t.flag .u = true) : Acts s t :=
  ⟨k.opCode.trans h.opCode, k.opCodeCycle.trans h.opCodeCycle, k.decimalEnabled.trans h.decimalEnabled,
    k.irqLevelDetector.trans h.irqLevelDetector, k.irqSignal.trans h.irqSignal,
    k.nmiEdgeDetector.trans h.nmiEdgeDetector, k.nmiSignal.trans h.nmiSignal, k.past.trans h.past,
    fun h' => hu (h.flagU h'), by unfold OneAccess; rw [k.bus, k.platform]; exact h.access⟩

/-- The write of an RMW's last cycle after its modification. -/
theorem Acts.of_modify {s q : State} (k : KeepsRest s q) (hu : s.flag .u = true → q.flag .u = true) (a : Addr)
    (r : Byte) : Acts s (({ q with operand := r }).writeCycle a r) :=
  ⟨k.opCode, k.opCodeCycle, k.decimalEnabled, k.irqLevelDetector, k.irqSignal, k.nmiEdgeDetector, k.nmiSignal, k.past, hu,
    .inr ⟨a, r, congrArg (· ++ [BusAccess.write a r]) k.bus, congrArg (Platform.write · a r) k.platform⟩⟩

/-! The operations: each keeps the rest and bit 5 of P. -/

/-- An operation on A, X, Y, S and P that keeps bit 5 of P. -/
structure OpGood (f : State → State) : Prop where
  rest : ∀ s, KeepsRest s (f s)
  flagU : ∀ s, s.flag .u = true → (f s).flag .u = true

/-- The same of a read instruction's operation. -/
abbrev ReadOp.Good (f : ReadOp) : Prop := ∀ v, OpGood (f v)

/-- The same of a modification. -/
abbrev Modify.Good (f : Modify) : Prop := ∀ v, OpGood fun s => (f v s).2

section ops

theorem good_setFlag (f : Flag) (v : Bool) (h : f ≠ .u) : OpGood fun s => s.setFlag f v :=
  ⟨fun s => keepsRest_setFlag s f v, fun s hs => by simpa [h] using hs⟩

theorem good_id : OpGood id := ⟨keepsRest_id, fun _ => id⟩

/-- SetZN, a result and a compare keep bit 5. -/
theorem State.flagU_setZN (s : State) (v : Byte) : (s.setZN v).flag .u = s.flag .u := by simp
theorem State.flagU_setAlu (s : State) (r : AluResult) : (s.setAlu r).flag .u = s.flag .u := by simp
theorem State.flagU_compare (s : State) (r v : Byte) : (s.compare r v).flag .u = s.flag .u := by simp

theorem good_opLda : ReadOp.Good opLda := fun v => ⟨keepsRest_opLda v, fun _ h => (State.flagU_setZN ..).trans h⟩
theorem good_opLdx : ReadOp.Good opLdx := fun v => ⟨keepsRest_opLdx v, fun _ h => (State.flagU_setZN ..).trans h⟩
theorem good_opLdy : ReadOp.Good opLdy := fun v => ⟨keepsRest_opLdy v, fun _ h => (State.flagU_setZN ..).trans h⟩
theorem good_opAdc : ReadOp.Good opAdc := fun v => ⟨keepsRest_opAdc v, fun _ h => (State.flagU_setAlu ..).trans h⟩
theorem good_opSbc : ReadOp.Good opSbc := fun v => ⟨keepsRest_opSbc v, fun _ h => (State.flagU_setAlu ..).trans h⟩
theorem good_opAnd : ReadOp.Good opAnd := fun v => ⟨keepsRest_opAnd v, fun _ h => (State.flagU_setZN ..).trans h⟩
theorem good_opOra : ReadOp.Good opOra := fun v => ⟨keepsRest_opOra v, fun _ h => (State.flagU_setZN ..).trans h⟩
theorem good_opEor : ReadOp.Good opEor := fun v => ⟨keepsRest_opEor v, fun _ h => (State.flagU_setZN ..).trans h⟩
theorem good_opBit : ReadOp.Good opBit := fun v => ⟨keepsRest_opBit v, fun _ h => by simpa [opBit] using h⟩
theorem good_opCmp : ReadOp.Good opCmp := fun v => ⟨keepsRest_opCmp v, fun _ h => (State.flagU_compare ..).trans h⟩
theorem good_opCpx : ReadOp.Good opCpx := fun v => ⟨keepsRest_opCpx v, fun _ h => (State.flagU_compare ..).trans h⟩
theorem good_opCpy : ReadOp.Good opCpy := fun v => ⟨keepsRest_opCpy v, fun _ h => (State.flagU_compare ..).trans h⟩
theorem good_opLax : ReadOp.Good opLax := fun v => ⟨keepsRest_opLax v, fun _ h => (State.flagU_setZN ..).trans h⟩
theorem good_opAnc : ReadOp.Good opAnc := fun v => ⟨keepsRest_opAnc v, fun s h => by
  have h' : ({ s with a := s.a &&& v } : State).flag .u = true := h
  simpa [opAnc] using h'⟩
theorem good_opAlr : ReadOp.Good opAlr := fun v => ⟨keepsRest_opAlr v, fun s h => by
  have h' : ({ s with a := (s.a &&& v) >>> 1 } : State).flag .u = true := h
  simpa [opAlr] using h'⟩
theorem good_opArr : ReadOp.Good opArr := fun v => ⟨keepsRest_opArr v, fun _ h => (State.flagU_setAlu ..).trans h⟩
theorem good_opAne : ReadOp.Good opAne := fun v => ⟨keepsRest_opAne v, fun _ h => (State.flagU_setZN ..).trans h⟩
theorem good_opLxa : ReadOp.Good opLxa := fun v => ⟨keepsRest_opLxa v, fun _ h => (State.flagU_setZN ..).trans h⟩
theorem good_opSbx : ReadOp.Good opSbx := fun v => ⟨keepsRest_opSbx v, fun _ h => (State.flagU_compare ..).trans h⟩
theorem good_opLas : ReadOp.Good opLas := fun v => ⟨keepsRest_opLas v, fun _ h => (State.flagU_setZN ..).trans h⟩
theorem good_opNop : ReadOp.Good opNop := fun v => ⟨keepsRest_opNop v, fun _ h => h⟩
theorem good_pla : ReadOp.Good fun v s => { s with a := v }.setZN v :=
  fun v => ⟨keepsRest_opLda v, fun _ h => (State.flagU_setZN ..).trans h⟩
theorem good_plp : ReadOp.Good fun v s => s.setStatus v :=
  fun v => ⟨fun s => keepsRest_setStatus s v, fun _ _ => by simp⟩
theorem good_opTax : OpGood opTax := ⟨keepsRest_opTax, fun _ h => (State.flagU_setZN ..).trans h⟩
theorem good_opTay : OpGood opTay := ⟨keepsRest_opTay, fun _ h => (State.flagU_setZN ..).trans h⟩
theorem good_opTxa : OpGood opTxa := ⟨keepsRest_opTxa, fun _ h => (State.flagU_setZN ..).trans h⟩
theorem good_opTya : OpGood opTya := ⟨keepsRest_opTya, fun _ h => (State.flagU_setZN ..).trans h⟩
theorem good_opTsx : OpGood opTsx := ⟨keepsRest_opTsx, fun _ h => (State.flagU_setZN ..).trans h⟩
theorem good_opTxs : OpGood opTxs := ⟨keepsRest_opTxs, fun _ h => h⟩
theorem good_opInx : OpGood opInx := ⟨keepsRest_opInx, fun _ h => (State.flagU_setZN ..).trans h⟩
theorem good_opIny : OpGood opIny := ⟨keepsRest_opIny, fun _ h => (State.flagU_setZN ..).trans h⟩
theorem good_opDex : OpGood opDex := ⟨keepsRest_opDex, fun _ h => (State.flagU_setZN ..).trans h⟩
theorem good_opDey : OpGood opDey := ⟨keepsRest_opDey, fun _ h => (State.flagU_setZN ..).trans h⟩
theorem good_aslByte : Modify.Good aslByte := fun v => ⟨keepsRest_aslByte v, fun _ h => by simpa [aslByte] using h⟩
theorem good_lsrByte : Modify.Good lsrByte := fun v => ⟨keepsRest_lsrByte v, fun _ h => by simpa [lsrByte] using h⟩
theorem good_rolByte : Modify.Good rolByte := fun v => ⟨keepsRest_rolByte v, fun _ h => by simpa [rolByte] using h⟩
theorem good_rorByte : Modify.Good rorByte := fun v => ⟨keepsRest_rorByte v, fun _ h => by simpa [rorByte] using h⟩
theorem good_incByte : Modify.Good incByte := fun v => ⟨keepsRest_incByte v, fun _ h => by simpa [incByte] using h⟩
theorem good_decByte : Modify.Good decByte := fun v => ⟨keepsRest_decByte v, fun _ h => by simpa [decByte] using h⟩
theorem good_modifySlo : Modify.Good modifySlo :=
  fun v => ⟨keepsRest_modifySlo v, fun s h => by rw [modifySlo_flag]; simpa using h⟩
theorem good_modifyRla : Modify.Good modifyRla :=
  fun v => ⟨keepsRest_modifyRla v, fun s h => by rw [modifyRla_flag]; simpa using h⟩
theorem good_modifySre : Modify.Good modifySre :=
  fun v => ⟨keepsRest_modifySre v, fun s h => by rw [modifySre_flag]; simpa using h⟩
theorem good_modifyRra : Modify.Good modifyRra :=
  fun v => ⟨keepsRest_modifyRra v, fun s h => (State.flagU_setAlu ..).trans ((good_rorByte v).flagU s h)⟩
theorem good_modifyDcp : Modify.Good modifyDcp :=
  fun v => ⟨keepsRest_modifyDcp v, fun _ h => (State.flagU_compare ..).trans h⟩
theorem good_modifyIsc : Modify.Good modifyIsc :=
  fun v => ⟨keepsRest_modifyIsc v, fun _ h => (State.flagU_setAlu ..).trans h⟩

end ops

/-! The address cycles, with the operand bytes fetched from the bus. -/

section addresses
variable (i : Index)

theorem good_fetchZpAddress : (fetchZpAddress .live).Good := fun _ => .of_read _ _ _ _ _ _ _ _ _ _ rfl
theorem good_fetchLow : (fetchLow .live).Good := fun _ => .of_read _ _ _ _ _ _ _ _ _ _ rfl
theorem good_fetchHigh : (fetchHigh .live).Good := fun _ => .of_read _ _ _ _ _ _ _ _ _ _ rfl
theorem good_fetchHighIndexed : (fetchHighIndexed .live i).Good := fun _ => .of_read _ _ _ _ _ _ _ _ _ _ rfl
theorem good_dummyReadAndFix : (dummyReadAndFix i).Good := fun _ => .of_read _ _ _ _ _ _ _ _ _ _ rfl
theorem good_fetchPointer : (fetchPointer .live).Good := fun _ => .of_read _ _ _ _ _ _ _ _ _ _ rfl
theorem good_readPointerLow : readPointerLow.Good := fun _ => .of_read _ _ _ _ _ _ _ _ _ _ rfl
theorem good_readPointerHigh : readPointerHigh.Good := fun _ => .of_read _ _ _ _ _ _ _ _ _ _ rfl
theorem good_readPointerHighIndexed : readPointerHighIndexed.Good := fun _ => .of_read _ _ _ _ _ _ _ _ _ _ rfl

/-- Actions that all act so. -/
abbrev AllGood (ms : List MicroOp) : Prop := ∀ m ∈ ms, m.Good

theorem allGood_cons {m : MicroOp} {ms : List MicroOp} (h : m.Good) (k : AllGood ms) : AllGood (m :: ms) :=
  List.forall_mem_cons.mpr ⟨h, k⟩

theorem allGood_nil : AllGood [] := fun _ h => nomatch h

theorem allGood_append {ms ns : List MicroOp} (h : AllGood ms) (k : AllGood ns) : AllGood (ms ++ ns) :=
  List.forall_mem_append.mpr ⟨h, k⟩

theorem good_addrZp : AllGood (addrZp .live) := allGood_cons good_fetchZpAddress allGood_nil

theorem good_addrZpIndexed : AllGood (addrZpIndexed .live i) :=
  allGood_cons good_fetchZpAddress (allGood_cons (fun _ => .of_read _ _ _ _ _ _ _ _ _ _ rfl) allGood_nil)

theorem good_addrAbs : AllGood (addrAbs .live) :=
  allGood_cons good_fetchLow (allGood_cons good_fetchHigh allGood_nil)

theorem good_addrAbsIndexed : AllGood (addrAbsIndexed .live i) :=
  allGood_cons good_fetchLow (allGood_cons (good_fetchHighIndexed i)
    (allGood_cons (good_dummyReadAndFix i) allGood_nil))

theorem good_addrIzx : AllGood (addrIzx .live) :=
  allGood_cons good_fetchPointer (allGood_cons (fun _ => .of_read _ _ _ _ _ _ _ _ _ _ rfl)
    (allGood_cons good_readPointerLow (allGood_cons good_readPointerHigh allGood_nil)))

theorem good_addrIzy : AllGood (addrIzy .live) :=
  allGood_cons good_fetchPointer (allGood_cons good_readPointerLow
    (allGood_cons good_readPointerHighIndexed (allGood_cons (good_dummyReadAndFix .y) allGood_nil)))

end addresses

/-! The sequences. -/

section sequences
variable {address : List MicroOp} (ha : AllGood address) (i : Index)

theorem Acts.readCycle (s : State) (a : Addr) : Acts s (s.readCycle a) := .of_read _ _ _ _ _ _ _ _ _ _ rfl

/-- A read, and an operation on what it leaves. -/
theorem OpGood.after {g : State → State} (h : OpGood g) {s q : State} (k : Acts s q) : Acts s (g q) :=
  k.then_keeps (h.rest q) (h.flagU q)

theorem good_impliedSeq {g : State → State} (h : OpGood g) : (impliedSeq g).Good :=
  allGood_cons (fun s => h.after (.readCycle s _)) allGood_nil

theorem good_accumulatorSeq {g : Modify} (h : Modify.Good g) : (accumulatorSeq g).Good :=
  allGood_cons (fun s => ((h _).after (.readCycle s s.pc)).then_keeps (.of_eq _ _ _ _ _ rfl) id) allGood_nil

theorem good_immediateSeq {g : ReadOp} (h : g.Good) : (immediateSeq .live g).Good :=
  allGood_cons (fun s => (h _).after (.of_read (s := s) s.pc _ _ _ _ _ _ _ _ _ rfl)) allGood_nil

theorem good_readAndApply {g : ReadOp} (h : g.Good) : (readAndApply g).Good := fun s => (h _).after (.readCycle s _)

theorem good_readUncorrected {g : ReadOp} (h : g.Good) : (readUncorrected i g).Good := fun s => by
  unfold readUncorrected
  split
  · exact .of_read _ _ _ _ _ _ _ _ _ _ rfl
  · exact (h _).after (.readCycle s _)

include ha in
theorem good_readSeq {g : ReadOp} (h : g.Good) : (readSeq address g).Good :=
  allGood_append ha (allGood_cons (good_readAndApply h) allGood_nil)

theorem good_readAbsIndexedSeq {g : ReadOp} (h : g.Good) : (readAbsIndexedSeq .live i g).Good :=
  allGood_cons good_fetchLow (allGood_cons (good_fetchHighIndexed i)
    (allGood_cons (good_readUncorrected i h) (allGood_cons (good_readAndApply h) allGood_nil)))

theorem good_readIzySeq {g : ReadOp} (h : g.Good) : (readIzySeq .live g).Good :=
  allGood_cons good_fetchPointer (allGood_cons good_readPointerLow (allGood_cons good_readPointerHighIndexed
    (allGood_cons (good_readUncorrected .y h) (allGood_cons (good_readAndApply h) allGood_nil))))

include ha in
theorem good_writeSeq (w : State → Byte) : (writeSeq address w).Good :=
  allGood_append ha (allGood_cons (fun _ => .of_write _ _ _ _ _ _ _ _ _ _ _ rfl) allGood_nil)

include ha in
theorem good_rmwSeq {g : Modify} (h : Modify.Good g) : (rmwSeq address g).Good :=
  allGood_append ha (allGood_cons (fun _ => .of_read _ _ _ _ _ _ _ _ _ _ rfl)
    (allGood_cons (fun _ => .of_write _ _ _ _ _ _ _ _ _ _ _ rfl)
      (allGood_cons (fun s => .of_modify ((h s.operand).rest s) ((h s.operand).flagU s) s.ea _) allGood_nil)))

theorem acts_storeHigh {s q : State} (k : KeepsRest s q) (hp : q.p = s.p) (v : Byte) : Acts s (q.storeHigh i v) :=
  ⟨k.opCode, k.opCodeCycle, k.decimalEnabled, k.irqLevelDetector, k.irqSignal, k.nmiEdgeDetector, k.nmiSignal, k.past,
    fun h => by show q.p.getLsbD _ = _; rw [hp]; exact h,
    .inr ⟨_, v, congrArg (· ++ [BusAccess.write _ v]) k.bus, congrArg (Platform.write · _ v) k.platform⟩⟩

include ha in
theorem good_shSeq (source : State → Byte) : (shSeq address i source).Good :=
  allGood_append ha (allGood_cons (fun s => acts_storeHigh i (keepsRest_refl s) rfl _) allGood_nil)

include ha in
theorem good_tasSeq : (tasSeq address).Good :=
  allGood_append ha (allGood_cons (fun s => acts_storeHigh .y (.of_eq s.a s.x s.y (s.a &&& s.x) s.p rfl) rfl _)
    allGood_nil)

theorem good_jamSeq : jamSeq.Good := allGood_nil

theorem good_branchSeq (on : Flag) (v : Bool) : (branchSeq .live on v).Good :=
  allGood_cons (fun _ => .of_read _ _ _ _ _ _ _ _ _ _ rfl) (allGood_cons (fun _ => .of_read _ _ _ _ _ _ _ _ _ _ rfl)
    (allGood_cons (fun _ => .of_read _ _ _ _ _ _ _ _ _ _ rfl) allGood_nil))

theorem good_jmpAbsSeq : (jmpAbsSeq .live).Good :=
  allGood_cons good_fetchLow (allGood_cons (fun _ => .of_read _ _ _ _ _ _ _ _ _ _ rfl) allGood_nil)

theorem good_jmpIndirectSeq : (jmpIndirectSeq .live).Good :=
  allGood_cons good_fetchLow (allGood_cons good_fetchHigh
    (allGood_cons (fun _ => .of_read _ _ _ _ _ _ _ _ _ _ rfl)
      (allGood_cons (fun _ => .of_read _ _ _ _ _ _ _ _ _ _ rfl) allGood_nil)))

theorem Acts.push (s : State) (v : Byte) : Acts s (s.push v) := .of_write _ _ _ _ _ _ _ _ _ _ _ rfl

theorem Acts.readStackAndRaise (s : State) : Acts s s.readStackAndRaise := .of_read _ _ _ _ _ _ _ _ _ _ rfl

theorem good_jsrSeq : (jsrSeq .live).Good :=
  allGood_cons good_fetchLow (allGood_cons (fun s => .readCycle s _) (allGood_cons (fun s => .push s _)
    (allGood_cons (fun s => .push s _) (allGood_cons (fun _ => .of_read _ _ _ _ _ _ _ _ _ _ rfl) allGood_nil))))

theorem good_rtsSeq : rtsSeq.Good :=
  allGood_cons (fun s => .readCycle s _) (allGood_cons .readStackAndRaise
    (allGood_cons (fun _ => .of_read _ _ _ _ _ _ _ _ _ _ rfl)
      (allGood_cons (fun _ => .of_read _ _ _ _ _ _ _ _ _ _ rfl)
        (allGood_cons (fun _ => .of_read _ _ _ _ _ _ _ _ _ _ rfl) allGood_nil))))

theorem good_rtiSeq : rtiSeq.Good :=
  allGood_cons (fun s => .readCycle s _) (allGood_cons .readStackAndRaise
    (allGood_cons (fun s => (good_plp _).after (.readStackAndRaise s))
      (allGood_cons (fun _ => .of_read _ _ _ _ _ _ _ _ _ _ rfl)
        (allGood_cons (fun _ => .of_read _ _ _ _ _ _ _ _ _ _ rfl) allGood_nil))))

theorem good_interruptTail (bPush : Bool) (vector : Addr) : AllGood (interruptTail bPush vector) :=
  allGood_cons (fun s => .push s _) (allGood_cons (fun s => .push s _)
    (allGood_cons (fun s => (good_setFlag .i true (by decide)).after (.push s _))
      (allGood_cons (fun _ => .of_read _ _ _ _ _ _ _ _ _ _ rfl)
        (allGood_cons (fun _ => .of_read _ _ _ _ _ _ _ _ _ _ rfl) allGood_nil))))

theorem good_brkSeq : brkSeq.Good :=
  allGood_cons (fun _ => .of_read _ _ _ _ _ _ _ _ _ _ rfl) (good_interruptTail _ _)

theorem good_interruptEntry (vector : Addr) : (interruptEntry vector).Good :=
  allGood_cons (fun s => .readCycle s _) (good_interruptTail _ _)

theorem good_pushSeq (w : State → Byte) : (pushSeq w).Good :=
  allGood_cons (fun s => .readCycle s _) (allGood_cons (fun s => .push s _) allGood_nil)

theorem good_pullSeq {g : ReadOp} (h : g.Good) : (pullSeq g).Good :=
  allGood_cons (fun s => .readCycle s _) (allGood_cons .readStackAndRaise
    (allGood_cons (fun s => (h _).after (.readCycle s _)) allGood_nil))

end sequences

end Sys2Proof.Machine
end

