-- ==== Sys2Proof/Laws/PerInstr.lean ====
section
/-! SUPPORT. Per instruction, as syntax: it is well-formed (R100, R101), and its words are as many as its opcode byte fixes (R100). -/

namespace Sys2Proof.Laws

/-- What holds of the encoding of every instruction. -/
def Encoding.Statement (i : Instr) : Prop :=
  i.wellFormed = true ∧ i.length = opcodeLength ((encode i).headD 0)

/-- An instruction's words are well-formed when they are as many as the opcode byte fixes. -/
theorem encoding_of (i : Instr) (op : Byte) (operands : List Byte) (he : encode i = op :: operands)
    (h : lengthOf op.toNat = some (operands.length + 1)) : Encoding.Statement i := by
  have hc : i.raw.countFits = true := decide_eq_true (by rw [Instr.raw, he]; simpa using h)
  have ho : i.raw.opcodeIsByte = true := decide_eq_true ((encode i).headD 0).isLt
  have hb : i.raw.operandsAreBytes = true := by
    rw [RawInstr.operandsAreBytes, Instr.raw, List.all_map, List.all_eq_true]
    exact fun b _ => decide_eq_true b.isLt
  refine ⟨by rw [Instr.wellFormed, RawInstr.wellFormed, ho, hc, hb]; rfl, ?_⟩
  rw [Instr.length, he, opcodeLength, List.headD_cons, h]
  rfl

theorem Encoding.brk : Statement .brk := encoding_of _ 0x00 [] rfl rfl
theorem Encoding.oraIzx (b : Byte) : Statement (.oraIzx b) := encoding_of _ 0x01 [b] rfl rfl
theorem Encoding.jam02 : Statement .jam02 := encoding_of _ 0x02 [] rfl rfl
theorem Encoding.sloIzx (b : Byte) : Statement (.sloIzx b) := encoding_of _ 0x03 [b] rfl rfl
theorem Encoding.nopZp04 (b : Byte) : Statement (.nopZp04 b) := encoding_of _ 0x04 [b] rfl rfl
theorem Encoding.oraZp (b : Byte) : Statement (.oraZp b) := encoding_of _ 0x05 [b] rfl rfl
theorem Encoding.aslZp (b : Byte) : Statement (.aslZp b) := encoding_of _ 0x06 [b] rfl rfl
theorem Encoding.sloZp (b : Byte) : Statement (.sloZp b) := encoding_of _ 0x07 [b] rfl rfl
theorem Encoding.php : Statement .php := encoding_of _ 0x08 [] rfl rfl
theorem Encoding.oraImm (b : Byte) : Statement (.oraImm b) := encoding_of _ 0x09 [b] rfl rfl
theorem Encoding.aslAcc : Statement .aslAcc := encoding_of _ 0x0A [] rfl rfl
theorem Encoding.ancImm0B (b : Byte) : Statement (.ancImm0B b) := encoding_of _ 0x0B [b] rfl rfl
theorem Encoding.nopAbs0C (w : Addr) : Statement (.nopAbs0C w) := encoding_of _ 0x0C [lo8 w, hi8 w] rfl rfl
theorem Encoding.oraAbs (w : Addr) : Statement (.oraAbs w) := encoding_of _ 0x0D [lo8 w, hi8 w] rfl rfl
theorem Encoding.aslAbs (w : Addr) : Statement (.aslAbs w) := encoding_of _ 0x0E [lo8 w, hi8 w] rfl rfl
theorem Encoding.sloAbs (w : Addr) : Statement (.sloAbs w) := encoding_of _ 0x0F [lo8 w, hi8 w] rfl rfl
theorem Encoding.bpl (b : Byte) : Statement (.bpl b) := encoding_of _ 0x10 [b] rfl rfl
theorem Encoding.oraIzy (b : Byte) : Statement (.oraIzy b) := encoding_of _ 0x11 [b] rfl rfl
theorem Encoding.jam12 : Statement .jam12 := encoding_of _ 0x12 [] rfl rfl
theorem Encoding.sloIzy (b : Byte) : Statement (.sloIzy b) := encoding_of _ 0x13 [b] rfl rfl
theorem Encoding.nopZpx14 (b : Byte) : Statement (.nopZpx14 b) := encoding_of _ 0x14 [b] rfl rfl
theorem Encoding.oraZpx (b : Byte) : Statement (.oraZpx b) := encoding_of _ 0x15 [b] rfl rfl
theorem Encoding.aslZpx (b : Byte) : Statement (.aslZpx b) := encoding_of _ 0x16 [b] rfl rfl
theorem Encoding.sloZpx (b : Byte) : Statement (.sloZpx b) := encoding_of _ 0x17 [b] rfl rfl
theorem Encoding.clc : Statement .clc := encoding_of _ 0x18 [] rfl rfl
theorem Encoding.oraAbsy (w : Addr) : Statement (.oraAbsy w) := encoding_of _ 0x19 [lo8 w, hi8 w] rfl rfl
theorem Encoding.nopImp1A : Statement .nopImp1A := encoding_of _ 0x1A [] rfl rfl
theorem Encoding.sloAbsy (w : Addr) : Statement (.sloAbsy w) := encoding_of _ 0x1B [lo8 w, hi8 w] rfl rfl
theorem Encoding.nopAbsx1C (w : Addr) : Statement (.nopAbsx1C w) := encoding_of _ 0x1C [lo8 w, hi8 w] rfl rfl
theorem Encoding.oraAbsx (w : Addr) : Statement (.oraAbsx w) := encoding_of _ 0x1D [lo8 w, hi8 w] rfl rfl
theorem Encoding.aslAbsx (w : Addr) : Statement (.aslAbsx w) := encoding_of _ 0x1E [lo8 w, hi8 w] rfl rfl
theorem Encoding.sloAbsx (w : Addr) : Statement (.sloAbsx w) := encoding_of _ 0x1F [lo8 w, hi8 w] rfl rfl
theorem Encoding.jsrAbs (w : Addr) : Statement (.jsrAbs w) := encoding_of _ 0x20 [lo8 w, hi8 w] rfl rfl
theorem Encoding.andIzx (b : Byte) : Statement (.andIzx b) := encoding_of _ 0x21 [b] rfl rfl
theorem Encoding.jam22 : Statement .jam22 := encoding_of _ 0x22 [] rfl rfl
theorem Encoding.rlaIzx (b : Byte) : Statement (.rlaIzx b) := encoding_of _ 0x23 [b] rfl rfl
theorem Encoding.bitZp (b : Byte) : Statement (.bitZp b) := encoding_of _ 0x24 [b] rfl rfl
theorem Encoding.andZp (b : Byte) : Statement (.andZp b) := encoding_of _ 0x25 [b] rfl rfl
theorem Encoding.rolZp (b : Byte) : Statement (.rolZp b) := encoding_of _ 0x26 [b] rfl rfl
theorem Encoding.rlaZp (b : Byte) : Statement (.rlaZp b) := encoding_of _ 0x27 [b] rfl rfl
theorem Encoding.plp : Statement .plp := encoding_of _ 0x28 [] rfl rfl
theorem Encoding.andImm (b : Byte) : Statement (.andImm b) := encoding_of _ 0x29 [b] rfl rfl
theorem Encoding.rolAcc : Statement .rolAcc := encoding_of _ 0x2A [] rfl rfl
theorem Encoding.ancImm2B (b : Byte) : Statement (.ancImm2B b) := encoding_of _ 0x2B [b] rfl rfl
theorem Encoding.bitAbs (w : Addr) : Statement (.bitAbs w) := encoding_of _ 0x2C [lo8 w, hi8 w] rfl rfl
theorem Encoding.andAbs (w : Addr) : Statement (.andAbs w) := encoding_of _ 0x2D [lo8 w, hi8 w] rfl rfl
theorem Encoding.rolAbs (w : Addr) : Statement (.rolAbs w) := encoding_of _ 0x2E [lo8 w, hi8 w] rfl rfl
theorem Encoding.rlaAbs (w : Addr) : Statement (.rlaAbs w) := encoding_of _ 0x2F [lo8 w, hi8 w] rfl rfl
theorem Encoding.bmi (b : Byte) : Statement (.bmi b) := encoding_of _ 0x30 [b] rfl rfl
theorem Encoding.andIzy (b : Byte) : Statement (.andIzy b) := encoding_of _ 0x31 [b] rfl rfl
theorem Encoding.jam32 : Statement .jam32 := encoding_of _ 0x32 [] rfl rfl
theorem Encoding.rlaIzy (b : Byte) : Statement (.rlaIzy b) := encoding_of _ 0x33 [b] rfl rfl
theorem Encoding.nopZpx34 (b : Byte) : Statement (.nopZpx34 b) := encoding_of _ 0x34 [b] rfl rfl
theorem Encoding.andZpx (b : Byte) : Statement (.andZpx b) := encoding_of _ 0x35 [b] rfl rfl
theorem Encoding.rolZpx (b : Byte) : Statement (.rolZpx b) := encoding_of _ 0x36 [b] rfl rfl
theorem Encoding.rlaZpx (b : Byte) : Statement (.rlaZpx b) := encoding_of _ 0x37 [b] rfl rfl
theorem Encoding.sec : Statement .sec := encoding_of _ 0x38 [] rfl rfl
theorem Encoding.andAbsy (w : Addr) : Statement (.andAbsy w) := encoding_of _ 0x39 [lo8 w, hi8 w] rfl rfl
theorem Encoding.nopImp3A : Statement .nopImp3A := encoding_of _ 0x3A [] rfl rfl
theorem Encoding.rlaAbsy (w : Addr) : Statement (.rlaAbsy w) := encoding_of _ 0x3B [lo8 w, hi8 w] rfl rfl
theorem Encoding.nopAbsx3C (w : Addr) : Statement (.nopAbsx3C w) := encoding_of _ 0x3C [lo8 w, hi8 w] rfl rfl
theorem Encoding.andAbsx (w : Addr) : Statement (.andAbsx w) := encoding_of _ 0x3D [lo8 w, hi8 w] rfl rfl
theorem Encoding.rolAbsx (w : Addr) : Statement (.rolAbsx w) := encoding_of _ 0x3E [lo8 w, hi8 w] rfl rfl
theorem Encoding.rlaAbsx (w : Addr) : Statement (.rlaAbsx w) := encoding_of _ 0x3F [lo8 w, hi8 w] rfl rfl
theorem Encoding.rti : Statement .rti := encoding_of _ 0x40 [] rfl rfl
theorem Encoding.eorIzx (b : Byte) : Statement (.eorIzx b) := encoding_of _ 0x41 [b] rfl rfl
theorem Encoding.jam42 : Statement .jam42 := encoding_of _ 0x42 [] rfl rfl
theorem Encoding.sreIzx (b : Byte) : Statement (.sreIzx b) := encoding_of _ 0x43 [b] rfl rfl
theorem Encoding.nopZp44 (b : Byte) : Statement (.nopZp44 b) := encoding_of _ 0x44 [b] rfl rfl
theorem Encoding.eorZp (b : Byte) : Statement (.eorZp b) := encoding_of _ 0x45 [b] rfl rfl
theorem Encoding.lsrZp (b : Byte) : Statement (.lsrZp b) := encoding_of _ 0x46 [b] rfl rfl
theorem Encoding.sreZp (b : Byte) : Statement (.sreZp b) := encoding_of _ 0x47 [b] rfl rfl
theorem Encoding.pha : Statement .pha := encoding_of _ 0x48 [] rfl rfl
theorem Encoding.eorImm (b : Byte) : Statement (.eorImm b) := encoding_of _ 0x49 [b] rfl rfl
theorem Encoding.lsrAcc : Statement .lsrAcc := encoding_of _ 0x4A [] rfl rfl
theorem Encoding.alrImm (b : Byte) : Statement (.alrImm b) := encoding_of _ 0x4B [b] rfl rfl
theorem Encoding.jmpAbs (w : Addr) : Statement (.jmpAbs w) := encoding_of _ 0x4C [lo8 w, hi8 w] rfl rfl
theorem Encoding.eorAbs (w : Addr) : Statement (.eorAbs w) := encoding_of _ 0x4D [lo8 w, hi8 w] rfl rfl
theorem Encoding.lsrAbs (w : Addr) : Statement (.lsrAbs w) := encoding_of _ 0x4E [lo8 w, hi8 w] rfl rfl
theorem Encoding.sreAbs (w : Addr) : Statement (.sreAbs w) := encoding_of _ 0x4F [lo8 w, hi8 w] rfl rfl
theorem Encoding.bvc (b : Byte) : Statement (.bvc b) := encoding_of _ 0x50 [b] rfl rfl
theorem Encoding.eorIzy (b : Byte) : Statement (.eorIzy b) := encoding_of _ 0x51 [b] rfl rfl
theorem Encoding.jam52 : Statement .jam52 := encoding_of _ 0x52 [] rfl rfl
theorem Encoding.sreIzy (b : Byte) : Statement (.sreIzy b) := encoding_of _ 0x53 [b] rfl rfl
theorem Encoding.nopZpx54 (b : Byte) : Statement (.nopZpx54 b) := encoding_of _ 0x54 [b] rfl rfl
theorem Encoding.eorZpx (b : Byte) : Statement (.eorZpx b) := encoding_of _ 0x55 [b] rfl rfl
theorem Encoding.lsrZpx (b : Byte) : Statement (.lsrZpx b) := encoding_of _ 0x56 [b] rfl rfl
theorem Encoding.sreZpx (b : Byte) : Statement (.sreZpx b) := encoding_of _ 0x57 [b] rfl rfl
theorem Encoding.cli : Statement .cli := encoding_of _ 0x58 [] rfl rfl
theorem Encoding.eorAbsy (w : Addr) : Statement (.eorAbsy w) := encoding_of _ 0x59 [lo8 w, hi8 w] rfl rfl
theorem Encoding.nopImp5A : Statement .nopImp5A := encoding_of _ 0x5A [] rfl rfl
theorem Encoding.sreAbsy (w : Addr) : Statement (.sreAbsy w) := encoding_of _ 0x5B [lo8 w, hi8 w] rfl rfl
theorem Encoding.nopAbsx5C (w : Addr) : Statement (.nopAbsx5C w) := encoding_of _ 0x5C [lo8 w, hi8 w] rfl rfl
theorem Encoding.eorAbsx (w : Addr) : Statement (.eorAbsx w) := encoding_of _ 0x5D [lo8 w, hi8 w] rfl rfl
theorem Encoding.lsrAbsx (w : Addr) : Statement (.lsrAbsx w) := encoding_of _ 0x5E [lo8 w, hi8 w] rfl rfl
theorem Encoding.sreAbsx (w : Addr) : Statement (.sreAbsx w) := encoding_of _ 0x5F [lo8 w, hi8 w] rfl rfl
theorem Encoding.rts : Statement .rts := encoding_of _ 0x60 [] rfl rfl
theorem Encoding.adcIzx (b : Byte) : Statement (.adcIzx b) := encoding_of _ 0x61 [b] rfl rfl
theorem Encoding.jam62 : Statement .jam62 := encoding_of _ 0x62 [] rfl rfl
theorem Encoding.rraIzx (b : Byte) : Statement (.rraIzx b) := encoding_of _ 0x63 [b] rfl rfl
theorem Encoding.nopZp64 (b : Byte) : Statement (.nopZp64 b) := encoding_of _ 0x64 [b] rfl rfl
theorem Encoding.adcZp (b : Byte) : Statement (.adcZp b) := encoding_of _ 0x65 [b] rfl rfl
theorem Encoding.rorZp (b : Byte) : Statement (.rorZp b) := encoding_of _ 0x66 [b] rfl rfl
theorem Encoding.rraZp (b : Byte) : Statement (.rraZp b) := encoding_of _ 0x67 [b] rfl rfl
theorem Encoding.pla : Statement .pla := encoding_of _ 0x68 [] rfl rfl
theorem Encoding.adcImm (b : Byte) : Statement (.adcImm b) := encoding_of _ 0x69 [b] rfl rfl
theorem Encoding.rorAcc : Statement .rorAcc := encoding_of _ 0x6A [] rfl rfl
theorem Encoding.arrImm (b : Byte) : Statement (.arrImm b) := encoding_of _ 0x6B [b] rfl rfl
theorem Encoding.jmpInd (w : Addr) : Statement (.jmpInd w) := encoding_of _ 0x6C [lo8 w, hi8 w] rfl rfl
theorem Encoding.adcAbs (w : Addr) : Statement (.adcAbs w) := encoding_of _ 0x6D [lo8 w, hi8 w] rfl rfl
theorem Encoding.rorAbs (w : Addr) : Statement (.rorAbs w) := encoding_of _ 0x6E [lo8 w, hi8 w] rfl rfl
theorem Encoding.rraAbs (w : Addr) : Statement (.rraAbs w) := encoding_of _ 0x6F [lo8 w, hi8 w] rfl rfl
theorem Encoding.bvs (b : Byte) : Statement (.bvs b) := encoding_of _ 0x70 [b] rfl rfl
theorem Encoding.adcIzy (b : Byte) : Statement (.adcIzy b) := encoding_of _ 0x71 [b] rfl rfl
theorem Encoding.jam72 : Statement .jam72 := encoding_of _ 0x72 [] rfl rfl
theorem Encoding.rraIzy (b : Byte) : Statement (.rraIzy b) := encoding_of _ 0x73 [b] rfl rfl
theorem Encoding.nopZpx74 (b : Byte) : Statement (.nopZpx74 b) := encoding_of _ 0x74 [b] rfl rfl
theorem Encoding.adcZpx (b : Byte) : Statement (.adcZpx b) := encoding_of _ 0x75 [b] rfl rfl
theorem Encoding.rorZpx (b : Byte) : Statement (.rorZpx b) := encoding_of _ 0x76 [b] rfl rfl
theorem Encoding.rraZpx (b : Byte) : Statement (.rraZpx b) := encoding_of _ 0x77 [b] rfl rfl
theorem Encoding.sei : Statement .sei := encoding_of _ 0x78 [] rfl rfl
theorem Encoding.adcAbsy (w : Addr) : Statement (.adcAbsy w) := encoding_of _ 0x79 [lo8 w, hi8 w] rfl rfl
theorem Encoding.nopImp7A : Statement .nopImp7A := encoding_of _ 0x7A [] rfl rfl
theorem Encoding.rraAbsy (w : Addr) : Statement (.rraAbsy w) := encoding_of _ 0x7B [lo8 w, hi8 w] rfl rfl
theorem Encoding.nopAbsx7C (w : Addr) : Statement (.nopAbsx7C w) := encoding_of _ 0x7C [lo8 w, hi8 w] rfl rfl
theorem Encoding.adcAbsx (w : Addr) : Statement (.adcAbsx w) := encoding_of _ 0x7D [lo8 w, hi8 w] rfl rfl
theorem Encoding.rorAbsx (w : Addr) : Statement (.rorAbsx w) := encoding_of _ 0x7E [lo8 w, hi8 w] rfl rfl
theorem Encoding.rraAbsx (w : Addr) : Statement (.rraAbsx w) := encoding_of _ 0x7F [lo8 w, hi8 w] rfl rfl
theorem Encoding.nopImm80 (b : Byte) : Statement (.nopImm80 b) := encoding_of _ 0x80 [b] rfl rfl
theorem Encoding.staIzx (b : Byte) : Statement (.staIzx b) := encoding_of _ 0x81 [b] rfl rfl
theorem Encoding.nopImm82 (b : Byte) : Statement (.nopImm82 b) := encoding_of _ 0x82 [b] rfl rfl
theorem Encoding.saxIzx (b : Byte) : Statement (.saxIzx b) := encoding_of _ 0x83 [b] rfl rfl
theorem Encoding.styZp (b : Byte) : Statement (.styZp b) := encoding_of _ 0x84 [b] rfl rfl
theorem Encoding.staZp (b : Byte) : Statement (.staZp b) := encoding_of _ 0x85 [b] rfl rfl
theorem Encoding.stxZp (b : Byte) : Statement (.stxZp b) := encoding_of _ 0x86 [b] rfl rfl
theorem Encoding.saxZp (b : Byte) : Statement (.saxZp b) := encoding_of _ 0x87 [b] rfl rfl
theorem Encoding.dey : Statement .dey := encoding_of _ 0x88 [] rfl rfl
theorem Encoding.nopImm89 (b : Byte) : Statement (.nopImm89 b) := encoding_of _ 0x89 [b] rfl rfl
theorem Encoding.txa : Statement .txa := encoding_of _ 0x8A [] rfl rfl
theorem Encoding.aneImm (b : Byte) : Statement (.aneImm b) := encoding_of _ 0x8B [b] rfl rfl
theorem Encoding.styAbs (w : Addr) : Statement (.styAbs w) := encoding_of _ 0x8C [lo8 w, hi8 w] rfl rfl
theorem Encoding.staAbs (w : Addr) : Statement (.staAbs w) := encoding_of _ 0x8D [lo8 w, hi8 w] rfl rfl
theorem Encoding.stxAbs (w : Addr) : Statement (.stxAbs w) := encoding_of _ 0x8E [lo8 w, hi8 w] rfl rfl
theorem Encoding.saxAbs (w : Addr) : Statement (.saxAbs w) := encoding_of _ 0x8F [lo8 w, hi8 w] rfl rfl
theorem Encoding.bcc (b : Byte) : Statement (.bcc b) := encoding_of _ 0x90 [b] rfl rfl
theorem Encoding.staIzy (b : Byte) : Statement (.staIzy b) := encoding_of _ 0x91 [b] rfl rfl
theorem Encoding.jam92 : Statement .jam92 := encoding_of _ 0x92 [] rfl rfl
theorem Encoding.shaIzy (b : Byte) : Statement (.shaIzy b) := encoding_of _ 0x93 [b] rfl rfl
theorem Encoding.styZpx (b : Byte) : Statement (.styZpx b) := encoding_of _ 0x94 [b] rfl rfl
theorem Encoding.staZpx (b : Byte) : Statement (.staZpx b) := encoding_of _ 0x95 [b] rfl rfl
theorem Encoding.stxZpy (b : Byte) : Statement (.stxZpy b) := encoding_of _ 0x96 [b] rfl rfl
theorem Encoding.saxZpy (b : Byte) : Statement (.saxZpy b) := encoding_of _ 0x97 [b] rfl rfl
theorem Encoding.tya : Statement .tya := encoding_of _ 0x98 [] rfl rfl
theorem Encoding.staAbsy (w : Addr) : Statement (.staAbsy w) := encoding_of _ 0x99 [lo8 w, hi8 w] rfl rfl
theorem Encoding.txs : Statement .txs := encoding_of _ 0x9A [] rfl rfl
theorem Encoding.tasAbsy (w : Addr) : Statement (.tasAbsy w) := encoding_of _ 0x9B [lo8 w, hi8 w] rfl rfl
theorem Encoding.shyAbsx (w : Addr) : Statement (.shyAbsx w) := encoding_of _ 0x9C [lo8 w, hi8 w] rfl rfl
theorem Encoding.staAbsx (w : Addr) : Statement (.staAbsx w) := encoding_of _ 0x9D [lo8 w, hi8 w] rfl rfl
theorem Encoding.shxAbsy (w : Addr) : Statement (.shxAbsy w) := encoding_of _ 0x9E [lo8 w, hi8 w] rfl rfl
theorem Encoding.shaAbsy (w : Addr) : Statement (.shaAbsy w) := encoding_of _ 0x9F [lo8 w, hi8 w] rfl rfl
theorem Encoding.ldyImm (b : Byte) : Statement (.ldyImm b) := encoding_of _ 0xA0 [b] rfl rfl
theorem Encoding.ldaIzx (b : Byte) : Statement (.ldaIzx b) := encoding_of _ 0xA1 [b] rfl rfl
theorem Encoding.ldxImm (b : Byte) : Statement (.ldxImm b) := encoding_of _ 0xA2 [b] rfl rfl
theorem Encoding.laxIzx (b : Byte) : Statement (.laxIzx b) := encoding_of _ 0xA3 [b] rfl rfl
theorem Encoding.ldyZp (b : Byte) : Statement (.ldyZp b) := encoding_of _ 0xA4 [b] rfl rfl
theorem Encoding.ldaZp (b : Byte) : Statement (.ldaZp b) := encoding_of _ 0xA5 [b] rfl rfl
theorem Encoding.ldxZp (b : Byte) : Statement (.ldxZp b) := encoding_of _ 0xA6 [b] rfl rfl
theorem Encoding.laxZp (b : Byte) : Statement (.laxZp b) := encoding_of _ 0xA7 [b] rfl rfl
theorem Encoding.tay : Statement .tay := encoding_of _ 0xA8 [] rfl rfl
theorem Encoding.ldaImm (b : Byte) : Statement (.ldaImm b) := encoding_of _ 0xA9 [b] rfl rfl
theorem Encoding.tax : Statement .tax := encoding_of _ 0xAA [] rfl rfl
theorem Encoding.lxaImm (b : Byte) : Statement (.lxaImm b) := encoding_of _ 0xAB [b] rfl rfl
theorem Encoding.ldyAbs (w : Addr) : Statement (.ldyAbs w) := encoding_of _ 0xAC [lo8 w, hi8 w] rfl rfl
theorem Encoding.ldaAbs (w : Addr) : Statement (.ldaAbs w) := encoding_of _ 0xAD [lo8 w, hi8 w] rfl rfl
theorem Encoding.ldxAbs (w : Addr) : Statement (.ldxAbs w) := encoding_of _ 0xAE [lo8 w, hi8 w] rfl rfl
theorem Encoding.laxAbs (w : Addr) : Statement (.laxAbs w) := encoding_of _ 0xAF [lo8 w, hi8 w] rfl rfl
theorem Encoding.bcs (b : Byte) : Statement (.bcs b) := encoding_of _ 0xB0 [b] rfl rfl
theorem Encoding.ldaIzy (b : Byte) : Statement (.ldaIzy b) := encoding_of _ 0xB1 [b] rfl rfl
theorem Encoding.jamB2 : Statement .jamB2 := encoding_of _ 0xB2 [] rfl rfl
theorem Encoding.laxIzy (b : Byte) : Statement (.laxIzy b) := encoding_of _ 0xB3 [b] rfl rfl
theorem Encoding.ldyZpx (b : Byte) : Statement (.ldyZpx b) := encoding_of _ 0xB4 [b] rfl rfl
theorem Encoding.ldaZpx (b : Byte) : Statement (.ldaZpx b) := encoding_of _ 0xB5 [b] rfl rfl
theorem Encoding.ldxZpy (b : Byte) : Statement (.ldxZpy b) := encoding_of _ 0xB6 [b] rfl rfl
theorem Encoding.laxZpy (b : Byte) : Statement (.laxZpy b) := encoding_of _ 0xB7 [b] rfl rfl
theorem Encoding.clv : Statement .clv := encoding_of _ 0xB8 [] rfl rfl
theorem Encoding.ldaAbsy (w : Addr) : Statement (.ldaAbsy w) := encoding_of _ 0xB9 [lo8 w, hi8 w] rfl rfl
theorem Encoding.tsx : Statement .tsx := encoding_of _ 0xBA [] rfl rfl
theorem Encoding.lasAbsy (w : Addr) : Statement (.lasAbsy w) := encoding_of _ 0xBB [lo8 w, hi8 w] rfl rfl
theorem Encoding.ldyAbsx (w : Addr) : Statement (.ldyAbsx w) := encoding_of _ 0xBC [lo8 w, hi8 w] rfl rfl
theorem Encoding.ldaAbsx (w : Addr) : Statement (.ldaAbsx w) := encoding_of _ 0xBD [lo8 w, hi8 w] rfl rfl
theorem Encoding.ldxAbsy (w : Addr) : Statement (.ldxAbsy w) := encoding_of _ 0xBE [lo8 w, hi8 w] rfl rfl
theorem Encoding.laxAbsy (w : Addr) : Statement (.laxAbsy w) := encoding_of _ 0xBF [lo8 w, hi8 w] rfl rfl
theorem Encoding.cpyImm (b : Byte) : Statement (.cpyImm b) := encoding_of _ 0xC0 [b] rfl rfl
theorem Encoding.cmpIzx (b : Byte) : Statement (.cmpIzx b) := encoding_of _ 0xC1 [b] rfl rfl
theorem Encoding.nopImmC2 (b : Byte) : Statement (.nopImmC2 b) := encoding_of _ 0xC2 [b] rfl rfl
theorem Encoding.dcpIzx (b : Byte) : Statement (.dcpIzx b) := encoding_of _ 0xC3 [b] rfl rfl
theorem Encoding.cpyZp (b : Byte) : Statement (.cpyZp b) := encoding_of _ 0xC4 [b] rfl rfl
theorem Encoding.cmpZp (b : Byte) : Statement (.cmpZp b) := encoding_of _ 0xC5 [b] rfl rfl
theorem Encoding.decZp (b : Byte) : Statement (.decZp b) := encoding_of _ 0xC6 [b] rfl rfl
theorem Encoding.dcpZp (b : Byte) : Statement (.dcpZp b) := encoding_of _ 0xC7 [b] rfl rfl
theorem Encoding.iny : Statement .iny := encoding_of _ 0xC8 [] rfl rfl
theorem Encoding.cmpImm (b : Byte) : Statement (.cmpImm b) := encoding_of _ 0xC9 [b] rfl rfl
theorem Encoding.dex : Statement .dex := encoding_of _ 0xCA [] rfl rfl
theorem Encoding.sbxImm (b : Byte) : Statement (.sbxImm b) := encoding_of _ 0xCB [b] rfl rfl
theorem Encoding.cpyAbs (w : Addr) : Statement (.cpyAbs w) := encoding_of _ 0xCC [lo8 w, hi8 w] rfl rfl
theorem Encoding.cmpAbs (w : Addr) : Statement (.cmpAbs w) := encoding_of _ 0xCD [lo8 w, hi8 w] rfl rfl
theorem Encoding.decAbs (w : Addr) : Statement (.decAbs w) := encoding_of _ 0xCE [lo8 w, hi8 w] rfl rfl
theorem Encoding.dcpAbs (w : Addr) : Statement (.dcpAbs w) := encoding_of _ 0xCF [lo8 w, hi8 w] rfl rfl
theorem Encoding.bne (b : Byte) : Statement (.bne b) := encoding_of _ 0xD0 [b] rfl rfl
theorem Encoding.cmpIzy (b : Byte) : Statement (.cmpIzy b) := encoding_of _ 0xD1 [b] rfl rfl
theorem Encoding.jamD2 : Statement .jamD2 := encoding_of _ 0xD2 [] rfl rfl
theorem Encoding.dcpIzy (b : Byte) : Statement (.dcpIzy b) := encoding_of _ 0xD3 [b] rfl rfl
theorem Encoding.nopZpxD4 (b : Byte) : Statement (.nopZpxD4 b) := encoding_of _ 0xD4 [b] rfl rfl
theorem Encoding.cmpZpx (b : Byte) : Statement (.cmpZpx b) := encoding_of _ 0xD5 [b] rfl rfl
theorem Encoding.decZpx (b : Byte) : Statement (.decZpx b) := encoding_of _ 0xD6 [b] rfl rfl
theorem Encoding.dcpZpx (b : Byte) : Statement (.dcpZpx b) := encoding_of _ 0xD7 [b] rfl rfl
theorem Encoding.cld : Statement .cld := encoding_of _ 0xD8 [] rfl rfl
theorem Encoding.cmpAbsy (w : Addr) : Statement (.cmpAbsy w) := encoding_of _ 0xD9 [lo8 w, hi8 w] rfl rfl
theorem Encoding.nopImpDA : Statement .nopImpDA := encoding_of _ 0xDA [] rfl rfl
theorem Encoding.dcpAbsy (w : Addr) : Statement (.dcpAbsy w) := encoding_of _ 0xDB [lo8 w, hi8 w] rfl rfl
theorem Encoding.nopAbsxDC (w : Addr) : Statement (.nopAbsxDC w) := encoding_of _ 0xDC [lo8 w, hi8 w] rfl rfl
theorem Encoding.cmpAbsx (w : Addr) : Statement (.cmpAbsx w) := encoding_of _ 0xDD [lo8 w, hi8 w] rfl rfl
theorem Encoding.decAbsx (w : Addr) : Statement (.decAbsx w) := encoding_of _ 0xDE [lo8 w, hi8 w] rfl rfl
theorem Encoding.dcpAbsx (w : Addr) : Statement (.dcpAbsx w) := encoding_of _ 0xDF [lo8 w, hi8 w] rfl rfl
theorem Encoding.cpxImm (b : Byte) : Statement (.cpxImm b) := encoding_of _ 0xE0 [b] rfl rfl
theorem Encoding.sbcIzx (b : Byte) : Statement (.sbcIzx b) := encoding_of _ 0xE1 [b] rfl rfl
theorem Encoding.nopImmE2 (b : Byte) : Statement (.nopImmE2 b) := encoding_of _ 0xE2 [b] rfl rfl
theorem Encoding.iscIzx (b : Byte) : Statement (.iscIzx b) := encoding_of _ 0xE3 [b] rfl rfl
theorem Encoding.cpxZp (b : Byte) : Statement (.cpxZp b) := encoding_of _ 0xE4 [b] rfl rfl
theorem Encoding.sbcZp (b : Byte) : Statement (.sbcZp b) := encoding_of _ 0xE5 [b] rfl rfl
theorem Encoding.incZp (b : Byte) : Statement (.incZp b) := encoding_of _ 0xE6 [b] rfl rfl
theorem Encoding.iscZp (b : Byte) : Statement (.iscZp b) := encoding_of _ 0xE7 [b] rfl rfl
theorem Encoding.inx : Statement .inx := encoding_of _ 0xE8 [] rfl rfl
theorem Encoding.sbcImm (b : Byte) : Statement (.sbcImm b) := encoding_of _ 0xE9 [b] rfl rfl
theorem Encoding.nop : Statement .nop := encoding_of _ 0xEA [] rfl rfl
theorem Encoding.usbcImm (b : Byte) : Statement (.usbcImm b) := encoding_of _ 0xEB [b] rfl rfl
theorem Encoding.cpxAbs (w : Addr) : Statement (.cpxAbs w) := encoding_of _ 0xEC [lo8 w, hi8 w] rfl rfl
theorem Encoding.sbcAbs (w : Addr) : Statement (.sbcAbs w) := encoding_of _ 0xED [lo8 w, hi8 w] rfl rfl
theorem Encoding.incAbs (w : Addr) : Statement (.incAbs w) := encoding_of _ 0xEE [lo8 w, hi8 w] rfl rfl
theorem Encoding.iscAbs (w : Addr) : Statement (.iscAbs w) := encoding_of _ 0xEF [lo8 w, hi8 w] rfl rfl
theorem Encoding.beq (b : Byte) : Statement (.beq b) := encoding_of _ 0xF0 [b] rfl rfl
theorem Encoding.sbcIzy (b : Byte) : Statement (.sbcIzy b) := encoding_of _ 0xF1 [b] rfl rfl
theorem Encoding.jamF2 : Statement .jamF2 := encoding_of _ 0xF2 [] rfl rfl
theorem Encoding.iscIzy (b : Byte) : Statement (.iscIzy b) := encoding_of _ 0xF3 [b] rfl rfl
theorem Encoding.nopZpxF4 (b : Byte) : Statement (.nopZpxF4 b) := encoding_of _ 0xF4 [b] rfl rfl
theorem Encoding.sbcZpx (b : Byte) : Statement (.sbcZpx b) := encoding_of _ 0xF5 [b] rfl rfl
theorem Encoding.incZpx (b : Byte) : Statement (.incZpx b) := encoding_of _ 0xF6 [b] rfl rfl
theorem Encoding.iscZpx (b : Byte) : Statement (.iscZpx b) := encoding_of _ 0xF7 [b] rfl rfl
theorem Encoding.sed : Statement .sed := encoding_of _ 0xF8 [] rfl rfl
theorem Encoding.sbcAbsy (w : Addr) : Statement (.sbcAbsy w) := encoding_of _ 0xF9 [lo8 w, hi8 w] rfl rfl
theorem Encoding.nopImpFA : Statement .nopImpFA := encoding_of _ 0xFA [] rfl rfl
theorem Encoding.iscAbsy (w : Addr) : Statement (.iscAbsy w) := encoding_of _ 0xFB [lo8 w, hi8 w] rfl rfl
theorem Encoding.nopAbsxFC (w : Addr) : Statement (.nopAbsxFC w) := encoding_of _ 0xFC [lo8 w, hi8 w] rfl rfl
theorem Encoding.sbcAbsx (w : Addr) : Statement (.sbcAbsx w) := encoding_of _ 0xFD [lo8 w, hi8 w] rfl rfl
theorem Encoding.incAbsx (w : Addr) : Statement (.incAbsx w) := encoding_of _ 0xFE [lo8 w, hi8 w] rfl rfl
theorem Encoding.iscAbsx (w : Addr) : Statement (.iscAbsx w) := encoding_of _ 0xFF [lo8 w, hi8 w] rfl rfl

end Sys2Proof.Laws
end

