-- ==== Sys2Proof/Laws/Table.lean ====
section
/-! SUPPORT. The shapes of the 256 opcode entries: whatever holds of every shape holds of the whole table, and so of every instruction. -/

namespace Sys2Proof.Machine

/-- The address cycles of the memory modes. -/
inductive AddressShape : (Fetch → List MicroOp) → Prop where
  | zp : AddressShape addrZp
  | zpIndexed (i : Index) : AddressShape fun f => addrZpIndexed f i
  | abs : AddressShape addrAbs
  | absIndexed (i : Index) : AddressShape fun f => addrAbsIndexed f i
  | izx : AddressShape addrIzx
  | izy : AddressShape addrIzy

/-- The entries of the table, by the cycle sequence they follow; an operation keeps the rest of CORE and is blind to the
poll. -/
inductive Shape : (Fetch → Entry) → Prop where
  | implied {g : State → State} (h : OpGood g) (k : LatchBlind g) : Shape fun _ => impliedSeq g
  | accumulator {g : Modify} (h : Modify.Good g) (k : ModifyBlind g) : Shape fun _ => accumulatorSeq g
  | immediate {g : ReadOp} (h : g.Good) (k : OpBlind g) : Shape fun f => immediateSeq f g
  | read {a : Fetch → List MicroOp} (ha : AddressShape a) {g : ReadOp} (h : g.Good) (k : OpBlind g) :
      Shape fun f => readSeq (a f) g
  | readAbsIndexed (i : Index) {g : ReadOp} (h : g.Good) (k : OpBlind g) : Shape fun f => readAbsIndexedSeq f i g
  | readIzy {g : ReadOp} (h : g.Good) (k : OpBlind g) : Shape fun f => readIzySeq f g
  | write {a : Fetch → List MicroOp} (ha : AddressShape a) {w : State → Byte} (k : ValueBlind w) :
      Shape fun f => writeSeq (a f) w
  | rmw {a : Fetch → List MicroOp} (ha : AddressShape a) {g : Modify} (h : Modify.Good g) (k : ModifyBlind g) :
      Shape fun f => rmwSeq (a f) g
  | sh {a : Fetch → List MicroOp} (ha : AddressShape a) (i : Index) {w : State → Byte} (k : ValueBlind w) :
      Shape fun f => shSeq (a f) i w
  | tas {a : Fetch → List MicroOp} (ha : AddressShape a) : Shape fun f => tasSeq (a f)
  | branch (on : Flag) (v : Bool) : Shape fun f => branchSeq f on v
  | jmpAbs : Shape jmpAbsSeq
  | jmpIndirect : Shape jmpIndirectSeq
  | jsr : Shape jsrSeq
  | rts : Shape fun _ => rtsSeq
  | rti : Shape fun _ => rtiSeq
  | brk : Shape fun _ => brkSeq
  | push {w : State → Byte} (k : ValueBlind w) : Shape fun _ => pushSeq w
  | pull {g : ReadOp} (h : g.Good) (k : OpBlind g) : Shape fun _ => pullSeq g
  | jam : Shape fun _ => jamSeq

theorem shape_row0 : ∀ i (h : i < 16), Shape (tableRow0[i]) := by
  intro i h
  interval_cases i
  · exact .brk
  · exact .read .izx good_opOra blind_opOra
  · exact .jam
  · exact .rmw .izx good_modifySlo blind_modifySlo
  · exact .read .zp good_opNop blind_opNop
  · exact .read .zp good_opOra blind_opOra
  · exact .rmw .zp good_aslByte blind_aslByte
  · exact .rmw .zp good_modifySlo blind_modifySlo
  · exact .push (blind_statusImage true)
  · exact .immediate good_opOra blind_opOra
  · exact .accumulator good_aslByte blind_aslByte
  · exact .immediate good_opAnc blind_opAnc
  · exact .read .abs good_opNop blind_opNop
  · exact .read .abs good_opOra blind_opOra
  · exact .rmw .abs good_aslByte blind_aslByte
  · exact .rmw .abs good_modifySlo blind_modifySlo

theorem shape_row1 : ∀ i (h : i < 16), Shape (tableRow1[i]) := by
  intro i h
  interval_cases i
  · exact .branch .n false
  · exact .readIzy good_opOra blind_opOra
  · exact .jam
  · exact .rmw .izy good_modifySlo blind_modifySlo
  · exact .read (.zpIndexed .x) good_opNop blind_opNop
  · exact .read (.zpIndexed .x) good_opOra blind_opOra
  · exact .rmw (.zpIndexed .x) good_aslByte blind_aslByte
  · exact .rmw (.zpIndexed .x) good_modifySlo blind_modifySlo
  · exact .implied (good_setFlag .c false (by decide)) (blind_setFlag .c false)
  · exact .readAbsIndexed .y good_opOra blind_opOra
  · exact .implied good_id blind_id
  · exact .rmw (.absIndexed .y) good_modifySlo blind_modifySlo
  · exact .readAbsIndexed .x good_opNop blind_opNop
  · exact .readAbsIndexed .x good_opOra blind_opOra
  · exact .rmw (.absIndexed .x) good_aslByte blind_aslByte
  · exact .rmw (.absIndexed .x) good_modifySlo blind_modifySlo

theorem shape_row2 : ∀ i (h : i < 16), Shape (tableRow2[i]) := by
  intro i h
  interval_cases i
  · exact .jsr
  · exact .read .izx good_opAnd blind_opAnd
  · exact .jam
  · exact .rmw .izx good_modifyRla blind_modifyRla
  · exact .read .zp good_opBit blind_opBit
  · exact .read .zp good_opAnd blind_opAnd
  · exact .rmw .zp good_rolByte blind_rolByte
  · exact .rmw .zp good_modifyRla blind_modifyRla
  · exact .pull good_plp blind_plp
  · exact .immediate good_opAnd blind_opAnd
  · exact .accumulator good_rolByte blind_rolByte
  · exact .immediate good_opAnc blind_opAnc
  · exact .read .abs good_opBit blind_opBit
  · exact .read .abs good_opAnd blind_opAnd
  · exact .rmw .abs good_rolByte blind_rolByte
  · exact .rmw .abs good_modifyRla blind_modifyRla

theorem shape_row3 : ∀ i (h : i < 16), Shape (tableRow3[i]) := by
  intro i h
  interval_cases i
  · exact .branch .n true
  · exact .readIzy good_opAnd blind_opAnd
  · exact .jam
  · exact .rmw .izy good_modifyRla blind_modifyRla
  · exact .read (.zpIndexed .x) good_opNop blind_opNop
  · exact .read (.zpIndexed .x) good_opAnd blind_opAnd
  · exact .rmw (.zpIndexed .x) good_rolByte blind_rolByte
  · exact .rmw (.zpIndexed .x) good_modifyRla blind_modifyRla
  · exact .implied (good_setFlag .c true (by decide)) (blind_setFlag .c true)
  · exact .readAbsIndexed .y good_opAnd blind_opAnd
  · exact .implied good_id blind_id
  · exact .rmw (.absIndexed .y) good_modifyRla blind_modifyRla
  · exact .readAbsIndexed .x good_opNop blind_opNop
  · exact .readAbsIndexed .x good_opAnd blind_opAnd
  · exact .rmw (.absIndexed .x) good_rolByte blind_rolByte
  · exact .rmw (.absIndexed .x) good_modifyRla blind_modifyRla

theorem shape_row4 : ∀ i (h : i < 16), Shape (tableRow4[i]) := by
  intro i h
  interval_cases i
  · exact .rti
  · exact .read .izx good_opEor blind_opEor
  · exact .jam
  · exact .rmw .izx good_modifySre blind_modifySre
  · exact .read .zp good_opNop blind_opNop
  · exact .read .zp good_opEor blind_opEor
  · exact .rmw .zp good_lsrByte blind_lsrByte
  · exact .rmw .zp good_modifySre blind_modifySre
  · exact .push blind_a
  · exact .immediate good_opEor blind_opEor
  · exact .accumulator good_lsrByte blind_lsrByte
  · exact .immediate good_opAlr blind_opAlr
  · exact .jmpAbs
  · exact .read .abs good_opEor blind_opEor
  · exact .rmw .abs good_lsrByte blind_lsrByte
  · exact .rmw .abs good_modifySre blind_modifySre

theorem shape_row5 : ∀ i (h : i < 16), Shape (tableRow5[i]) := by
  intro i h
  interval_cases i
  · exact .branch .v false
  · exact .readIzy good_opEor blind_opEor
  · exact .jam
  · exact .rmw .izy good_modifySre blind_modifySre
  · exact .read (.zpIndexed .x) good_opNop blind_opNop
  · exact .read (.zpIndexed .x) good_opEor blind_opEor
  · exact .rmw (.zpIndexed .x) good_lsrByte blind_lsrByte
  · exact .rmw (.zpIndexed .x) good_modifySre blind_modifySre
  · exact .implied (good_setFlag .i false (by decide)) (blind_setFlag .i false)
  · exact .readAbsIndexed .y good_opEor blind_opEor
  · exact .implied good_id blind_id
  · exact .rmw (.absIndexed .y) good_modifySre blind_modifySre
  · exact .readAbsIndexed .x good_opNop blind_opNop
  · exact .readAbsIndexed .x good_opEor blind_opEor
  · exact .rmw (.absIndexed .x) good_lsrByte blind_lsrByte
  · exact .rmw (.absIndexed .x) good_modifySre blind_modifySre

theorem shape_row6 : ∀ i (h : i < 16), Shape (tableRow6[i]) := by
  intro i h
  interval_cases i
  · exact .rts
  · exact .read .izx good_opAdc blind_opAdc
  · exact .jam
  · exact .rmw .izx good_modifyRra blind_modifyRra
  · exact .read .zp good_opNop blind_opNop
  · exact .read .zp good_opAdc blind_opAdc
  · exact .rmw .zp good_rorByte blind_rorByte
  · exact .rmw .zp good_modifyRra blind_modifyRra
  · exact .pull good_pla blind_pla
  · exact .immediate good_opAdc blind_opAdc
  · exact .accumulator good_rorByte blind_rorByte
  · exact .immediate good_opArr blind_opArr
  · exact .jmpIndirect
  · exact .read .abs good_opAdc blind_opAdc
  · exact .rmw .abs good_rorByte blind_rorByte
  · exact .rmw .abs good_modifyRra blind_modifyRra

theorem shape_row7 : ∀ i (h : i < 16), Shape (tableRow7[i]) := by
  intro i h
  interval_cases i
  · exact .branch .v true
  · exact .readIzy good_opAdc blind_opAdc
  · exact .jam
  · exact .rmw .izy good_modifyRra blind_modifyRra
  · exact .read (.zpIndexed .x) good_opNop blind_opNop
  · exact .read (.zpIndexed .x) good_opAdc blind_opAdc
  · exact .rmw (.zpIndexed .x) good_rorByte blind_rorByte
  · exact .rmw (.zpIndexed .x) good_modifyRra blind_modifyRra
  · exact .implied (good_setFlag .i true (by decide)) (blind_setFlag .i true)
  · exact .readAbsIndexed .y good_opAdc blind_opAdc
  · exact .implied good_id blind_id
  · exact .rmw (.absIndexed .y) good_modifyRra blind_modifyRra
  · exact .readAbsIndexed .x good_opNop blind_opNop
  · exact .readAbsIndexed .x good_opAdc blind_opAdc
  · exact .rmw (.absIndexed .x) good_rorByte blind_rorByte
  · exact .rmw (.absIndexed .x) good_modifyRra blind_modifyRra

theorem shape_row8 : ∀ i (h : i < 16), Shape (tableRow8[i]) := by
  intro i h
  interval_cases i
  · exact .immediate good_opNop blind_opNop
  · exact .write .izx blind_valueSta
  · exact .immediate good_opNop blind_opNop
  · exact .write .izx blind_valueSax
  · exact .write .zp blind_valueSty
  · exact .write .zp blind_valueSta
  · exact .write .zp blind_valueStx
  · exact .write .zp blind_valueSax
  · exact .implied good_opDey blind_opDey
  · exact .immediate good_opNop blind_opNop
  · exact .implied good_opTxa blind_opTxa
  · exact .immediate good_opAne blind_opAne
  · exact .write .abs blind_valueSty
  · exact .write .abs blind_valueSta
  · exact .write .abs blind_valueStx
  · exact .write .abs blind_valueSax

theorem shape_row9 : ∀ i (h : i < 16), Shape (tableRow9[i]) := by
  intro i h
  interval_cases i
  · exact .branch .c false
  · exact .write .izy blind_valueSta
  · exact .jam
  · exact .sh .izy .y blind_sourceSha
  · exact .write (.zpIndexed .x) blind_valueSty
  · exact .write (.zpIndexed .x) blind_valueSta
  · exact .write (.zpIndexed .y) blind_valueStx
  · exact .write (.zpIndexed .y) blind_valueSax
  · exact .implied good_opTya blind_opTya
  · exact .write (.absIndexed .y) blind_valueSta
  · exact .implied good_opTxs blind_opTxs
  · exact .tas (.absIndexed .y)
  · exact .sh (.absIndexed .x) .x blind_sourceShy
  · exact .write (.absIndexed .x) blind_valueSta
  · exact .sh (.absIndexed .y) .y blind_sourceShx
  · exact .sh (.absIndexed .y) .y blind_sourceSha

theorem shape_rowA : ∀ i (h : i < 16), Shape (tableRowA[i]) := by
  intro i h
  interval_cases i
  · exact .immediate good_opLdy blind_opLdy
  · exact .read .izx good_opLda blind_opLda
  · exact .immediate good_opLdx blind_opLdx
  · exact .read .izx good_opLax blind_opLax
  · exact .read .zp good_opLdy blind_opLdy
  · exact .read .zp good_opLda blind_opLda
  · exact .read .zp good_opLdx blind_opLdx
  · exact .read .zp good_opLax blind_opLax
  · exact .implied good_opTay blind_opTay
  · exact .immediate good_opLda blind_opLda
  · exact .implied good_opTax blind_opTax
  · exact .immediate good_opLxa blind_opLxa
  · exact .read .abs good_opLdy blind_opLdy
  · exact .read .abs good_opLda blind_opLda
  · exact .read .abs good_opLdx blind_opLdx
  · exact .read .abs good_opLax blind_opLax

theorem shape_rowB : ∀ i (h : i < 16), Shape (tableRowB[i]) := by
  intro i h
  interval_cases i
  · exact .branch .c true
  · exact .readIzy good_opLda blind_opLda
  · exact .jam
  · exact .readIzy good_opLax blind_opLax
  · exact .read (.zpIndexed .x) good_opLdy blind_opLdy
  · exact .read (.zpIndexed .x) good_opLda blind_opLda
  · exact .read (.zpIndexed .y) good_opLdx blind_opLdx
  · exact .read (.zpIndexed .y) good_opLax blind_opLax
  · exact .implied (good_setFlag .v false (by decide)) (blind_setFlag .v false)
  · exact .readAbsIndexed .y good_opLda blind_opLda
  · exact .implied good_opTsx blind_opTsx
  · exact .readAbsIndexed .y good_opLas blind_opLas
  · exact .readAbsIndexed .x good_opLdy blind_opLdy
  · exact .readAbsIndexed .x good_opLda blind_opLda
  · exact .readAbsIndexed .y good_opLdx blind_opLdx
  · exact .readAbsIndexed .y good_opLax blind_opLax

theorem shape_rowC : ∀ i (h : i < 16), Shape (tableRowC[i]) := by
  intro i h
  interval_cases i
  · exact .immediate good_opCpy blind_opCpy
  · exact .read .izx good_opCmp blind_opCmp
  · exact .immediate good_opNop blind_opNop
  · exact .rmw .izx good_modifyDcp blind_modifyDcp
  · exact .read .zp good_opCpy blind_opCpy
  · exact .read .zp good_opCmp blind_opCmp
  · exact .rmw .zp good_decByte blind_decByte
  · exact .rmw .zp good_modifyDcp blind_modifyDcp
  · exact .implied good_opIny blind_opIny
  · exact .immediate good_opCmp blind_opCmp
  · exact .implied good_opDex blind_opDex
  · exact .immediate good_opSbx blind_opSbx
  · exact .read .abs good_opCpy blind_opCpy
  · exact .read .abs good_opCmp blind_opCmp
  · exact .rmw .abs good_decByte blind_decByte
  · exact .rmw .abs good_modifyDcp blind_modifyDcp

theorem shape_rowD : ∀ i (h : i < 16), Shape (tableRowD[i]) := by
  intro i h
  interval_cases i
  · exact .branch .z false
  · exact .readIzy good_opCmp blind_opCmp
  · exact .jam
  · exact .rmw .izy good_modifyDcp blind_modifyDcp
  · exact .read (.zpIndexed .x) good_opNop blind_opNop
  · exact .read (.zpIndexed .x) good_opCmp blind_opCmp
  · exact .rmw (.zpIndexed .x) good_decByte blind_decByte
  · exact .rmw (.zpIndexed .x) good_modifyDcp blind_modifyDcp
  · exact .implied (good_setFlag .d false (by decide)) (blind_setFlag .d false)
  · exact .readAbsIndexed .y good_opCmp blind_opCmp
  · exact .implied good_id blind_id
  · exact .rmw (.absIndexed .y) good_modifyDcp blind_modifyDcp
  · exact .readAbsIndexed .x good_opNop blind_opNop
  · exact .readAbsIndexed .x good_opCmp blind_opCmp
  · exact .rmw (.absIndexed .x) good_decByte blind_decByte
  · exact .rmw (.absIndexed .x) good_modifyDcp blind_modifyDcp

theorem shape_rowE : ∀ i (h : i < 16), Shape (tableRowE[i]) := by
  intro i h
  interval_cases i
  · exact .immediate good_opCpx blind_opCpx
  · exact .read .izx good_opSbc blind_opSbc
  · exact .immediate good_opNop blind_opNop
  · exact .rmw .izx good_modifyIsc blind_modifyIsc
  · exact .read .zp good_opCpx blind_opCpx
  · exact .read .zp good_opSbc blind_opSbc
  · exact .rmw .zp good_incByte blind_incByte
  · exact .rmw .zp good_modifyIsc blind_modifyIsc
  · exact .implied good_opInx blind_opInx
  · exact .immediate good_opSbc blind_opSbc
  · exact .implied good_id blind_id
  · exact .immediate good_opSbc blind_opSbc
  · exact .read .abs good_opCpx blind_opCpx
  · exact .read .abs good_opSbc blind_opSbc
  · exact .rmw .abs good_incByte blind_incByte
  · exact .rmw .abs good_modifyIsc blind_modifyIsc

theorem shape_rowF : ∀ i (h : i < 16), Shape (tableRowF[i]) := by
  intro i h
  interval_cases i
  · exact .branch .z true
  · exact .readIzy good_opSbc blind_opSbc
  · exact .jam
  · exact .rmw .izy good_modifyIsc blind_modifyIsc
  · exact .read (.zpIndexed .x) good_opNop blind_opNop
  · exact .read (.zpIndexed .x) good_opSbc blind_opSbc
  · exact .rmw (.zpIndexed .x) good_incByte blind_incByte
  · exact .rmw (.zpIndexed .x) good_modifyIsc blind_modifyIsc
  · exact .implied (good_setFlag .d true (by decide)) (blind_setFlag .d true)
  · exact .readAbsIndexed .y good_opSbc blind_opSbc
  · exact .implied good_id blind_id
  · exact .rmw (.absIndexed .y) good_modifyIsc blind_modifyIsc
  · exact .readAbsIndexed .x good_opNop blind_opNop
  · exact .readAbsIndexed .x good_opSbc blind_opSbc
  · exact .rmw (.absIndexed .x) good_incByte blind_incByte
  · exact .rmw (.absIndexed .x) good_modifyIsc blind_modifyIsc

/-- Every entry of the table has one of the shapes. -/
theorem opcodeEntry_shape (op : Byte) : Shape (opcodeEntry op) := by
  have h16 : op.toNat / 16 < 16 := by have := op.isLt; omega
  have key : ∀ r (hr : r < 16) i (hi : i < 16), Shape (tableRows[r][i]) := by
    intro r hr
    interval_cases r
    · exact shape_row0
    · exact shape_row1
    · exact shape_row2
    · exact shape_row3
    · exact shape_row4
    · exact shape_row5
    · exact shape_row6
    · exact shape_row7
    · exact shape_row8
    · exact shape_row9
    · exact shape_rowA
    · exact shape_rowB
    · exact shape_rowC
    · exact shape_rowD
    · exact shape_rowE
    · exact shape_rowF
  exact key (op.toNat / 16) h16 (op.toNat % 16) (Nat.mod_lt _ (by decide))

theorem AddressShape.good {a : Fetch → List MicroOp} (h : AddressShape a) : AllGood (a .live) := by
  cases h with
  | zp => exact good_addrZp
  | zpIndexed i => exact good_addrZpIndexed i
  | abs => exact good_addrAbs
  | absIndexed i => exact good_addrAbsIndexed i
  | izx => exact good_addrIzx
  | izy => exact good_addrIzy

/-- Every action of an opcode entry, its operand bytes fetched from the bus, makes one access and keeps what `Acts` says. -/
theorem Shape.good {e : Fetch → Entry} (h : Shape e) : (e .live).Good := by
  cases h with
  | implied h _ => exact good_impliedSeq h
  | accumulator h _ => exact good_accumulatorSeq h
  | immediate h _ => exact good_immediateSeq h
  | read ha h _ => exact good_readSeq ha.good h
  | readAbsIndexed i h _ => exact good_readAbsIndexedSeq i h
  | readIzy h _ => exact good_readIzySeq h
  | write ha _ => exact good_writeSeq ha.good _
  | rmw ha h _ => exact good_rmwSeq ha.good h
  | sh ha i _ => exact good_shSeq ha.good i _
  | tas ha => exact good_tasSeq ha.good
  | branch on v => exact good_branchSeq on v
  | jmpAbs => exact good_jmpAbsSeq
  | jmpIndirect => exact good_jmpIndirectSeq
  | jsr => exact good_jsrSeq
  | rts => exact good_rtsSeq
  | rti => exact good_rtiSeq
  | brk => exact good_brkSeq
  | push _ => exact good_pushSeq _
  | pull h _ => exact good_pullSeq h
  | jam => exact good_jamSeq

/-- Every action of the 258 entries of the table. -/
theorem microOps_good (k : OpCode) : (microOps k).Good := by
  cases k with
  | op op => exact (opcodeEntry_shape op).good
  | irqSequence => exact good_interruptEntry _
  | nmiSequence => exact good_interruptEntry _

/-- The cycles of the longest entry (R169). -/
theorem Shape.length_le {e : Fetch → Entry} (h : Shape e) (f : Fetch) : (e f).length ≤ 8 := by
  cases h with
  | read ha | write ha | rmw ha | sh ha | tas ha => cases ha <;> exact Nat.le_of_ble_eq_true rfl
  | _ => exact Nat.le_of_ble_eq_true rfl

end Sys2Proof.Machine
end

