-- ==== Sys2Proof/Laws/Ticks.lean ====
section
/-! SUPPORT. The instruction-level step and the cycle-level Tick: an entry run with its operand bytes given is that entry run with its bytes fetched, and running an entry is one Tick for each bus access. -/

namespace Sys2Proof.Machine

/-! What an advance changes. -/

/-- An advance writes the latches of the poll and OpCodeCycle alone. -/
theorem Entry.advance_eq (e : Entry) (k : Nat) (s : State) (ended : Bool) :
    ∃ i n d, e.advance k s ended = s.withLatches i n d (if ended || k + 1 == e.length then 0 else k + 1) := by
  cases h : e.pollsAt k s ended with
  | true => exact ⟨_, _, _, e.advance_poll k s ended h⟩
  | false => exact ⟨_, _, _, e.advance_quiet k s ended h⟩

@[simp] theorem Entry.advance_opCodeCycle (e : Entry) (k : Nat) (s : State) (ended : Bool) :
    (e.advance k s ended).opCodeCycle = if ended || k + 1 == e.length then 0 else k + 1 := by
  obtain ⟨i, n, d, h⟩ := e.advance_eq k s ended; rw [h]; rfl

@[simp] theorem Entry.advance_opCode (e : Entry) (k : Nat) (s : State) (ended : Bool) :
    (e.advance k s ended).opCode = s.opCode := by
  obtain ⟨i, n, d, h⟩ := e.advance_eq k s ended; rw [h]; rfl

@[simp] theorem Entry.advance_bus (e : Entry) (k : Nat) (s : State) (ended : Bool) :
    (e.advance k s ended).bus = s.bus := by
  obtain ⟨i, n, d, h⟩ := e.advance_eq k s ended; rw [h]; rfl

@[simp] theorem Entry.advance_platform (e : Entry) (k : Nat) (s : State) (ended : Bool) :
    (e.advance k s ended).platform = s.platform := by
  obtain ⟨i, n, d, h⟩ := e.advance_eq k s ended; rw [h]; rfl

@[simp] theorem Entry.advance_past (e : Entry) (k : Nat) (s : State) (ended : Bool) :
    (e.advance k s ended).past = s.past := by
  obtain ⟨i, n, d, h⟩ := e.advance_eq k s ended; rw [h]; rfl

@[simp] theorem Entry.advance_history (e : Entry) (k : Nat) (s : State) (ended : Bool) :
    (e.advance k s ended).history = s.history := by
  rw [State.history, Entry.advance_past, Entry.advance_bus]; rfl

@[simp] theorem Entry.advance_peek (e : Entry) (k : Nat) (s : State) (ended : Bool) (q : Addr) :
    (e.advance k s ended).peek q = s.peek q := by
  rw [State.peek, Entry.advance_platform, Entry.advance_history]; rfl

@[simp] theorem Entry.advance_pc (e : Entry) (k : Nat) (s : State) (ended : Bool) :
    (e.advance k s ended).pc = s.pc := by
  obtain ⟨i, n, d, h⟩ := e.advance_eq k s ended; rw [h]; rfl

@[simp] theorem Entry.advance_p (e : Entry) (k : Nat) (s : State) (ended : Bool) :
    (e.advance k s ended).p = s.p := by
  obtain ⟨i, n, d, h⟩ := e.advance_eq k s ended; rw [h]; rfl

/-- The poll point and the length of an entry are all that an advance takes from it. -/
theorem Entry.advance_congr {e e' : Entry} (hp : e.polls = e'.polls) (hl : e.length = e'.length) (k : Nat) (s : State)
    (ended : Bool) : e.advance k s ended = e'.advance k s ended := by
  have h : e.pollsAt k s ended = e'.pollsAt k s ended := by unfold Entry.pollsAt; rw [hp, hl]
  unfold Entry.advance
  rw [h, hl]

theorem Entry.runFrom_congr {e e' : Entry} (hp : e.polls = e'.polls) (hl : e.length = e'.length) :
    ∀ (ms : List MicroOp) (k : Nat) (s : State), e.runFrom k ms s = e'.runFrom k ms s
  | [], _, _ => rfl
  | m :: ms, k, s => by
    simp only [Entry.runFrom, Entry.advance_congr hp hl k, Entry.runFrom_congr hp hl ms]

/-! Operand bytes given, and operand bytes fetched. -/

/-- Two actions that agree wherever the byte at PC is `b`. -/
def AgreeOn (m m' : MicroOp) (b : Byte) : Prop := ∀ s, s.peek s.pc = b → m s = m' s

/-- An action that fetches the byte `b` at PC: PC moves past it, and the access joins the history. -/
def TakesOne (m : MicroOp) (b : Byte) : Prop :=
  ∀ s, (m s).1.pc = s.pc + 1 ∧ (m s).1.platform = s.platform ∧ (m s).1.history = s.history ++ [.read s.pc b]

theorem Entry.run_first {p : PollPoint} {m m' : MicroOp} {ms : List MicroOp} {b : Byte} {c0 : State}
    (h : AgreeOn m m' b) (hb : c0.peek c0.pc = b) :
    ({ polls := p, cycles := m :: ms } : Entry).run c0 = ({ polls := p, cycles := m' :: ms } : Entry).run c0 := by
  simp only [Entry.run]
  rw [Entry.advance_congr (e := { polls := p, cycles := m :: ms }) (e' := { polls := p, cycles := m' :: ms }) rfl rfl,
    Entry.runFrom_congr (e := { polls := p, cycles := m :: ms }) (e' := { polls := p, cycles := m' :: ms }) rfl rfl]
  simp only [Entry.runFrom]
  rw [h _ (by simpa using hb)]

theorem Entry.run_second {p : PollPoint} {m m' n n' : MicroOp} {ms : List MicroOp} {b b' : Byte} {c0 : State}
    (h : AgreeOn m m' b) (ht : TakesOne m' b) (h' : AgreeOn n n' b') (hb : c0.peek c0.pc = b)
    (hb' : c0.platform.read (c0.history ++ [.read c0.pc b]) (c0.pc + 1) = b') :
    ({ polls := p, cycles := m :: n :: ms } : Entry).run c0 =
      ({ polls := p, cycles := m' :: n' :: ms } : Entry).run c0 := by
  rw [Entry.run_first h hb]
  simp only [Entry.run]
  rw [Entry.advance_congr (e := { polls := p, cycles := m' :: n :: ms })
      (e' := { polls := p, cycles := m' :: n' :: ms }) rfl rfl,
    Entry.runFrom_congr (e := { polls := p, cycles := m' :: n :: ms })
      (e' := { polls := p, cycles := m' :: n' :: ms }) rfl rfl]
  simp only [Entry.runFrom]
  rw [h' _ (by
    obtain ⟨h1, h2, h3⟩ := ht (Entry.advance { polls := p, cycles := m' :: n' :: ms } 0 c0 false)
    rw [Entry.advance_peek, State.peek, Entry.advance_pc, h1, h2, h3, Entry.advance_platform, Entry.advance_history,
      Entry.advance_pc]
    exact hb')]

theorem agree_fetchZpAddress (b b' : Byte) : AgreeOn (fetchZpAddress .live) (fetchZpAddress (.given b b')) b := by
  rintro s rfl; rfl

theorem agree_fetchLow (b b' : Byte) : AgreeOn (fetchLow .live) (fetchLow (.given b b')) b := by rintro s rfl; rfl

theorem agree_fetchHigh (b b' : Byte) : AgreeOn (fetchHigh .live) (fetchHigh (.given b b')) b' := by rintro s rfl; rfl

theorem agree_fetchHighIndexed (b b' : Byte) (i : Index) :
    AgreeOn (fetchHighIndexed .live i) (fetchHighIndexed (.given b b') i) b' := by rintro s rfl; rfl

theorem agree_fetchPointer (b b' : Byte) : AgreeOn (fetchPointer .live) (fetchPointer (.given b b')) b := by
  rintro s rfl; rfl

theorem takesOne_fetchLow (b b' : Byte) : TakesOne (fetchLow (.given b b')) b :=
  fun s => ⟨wordOf_hi8_lo8 (s.pc + 1), rfl, State.takeByte_history s b⟩

section live
variable {c0 : State} {b b' : Byte} (hb : c0.peek c0.pc = b)
  (hb' : c0.platform.read (c0.history ++ [.read c0.pc b]) (c0.pc + 1) = b')
include hb hb'

/-- An address mode's operand bytes, given or fetched. -/
theorem AddressShape.live {a : Fetch → List MicroOp} (h : AddressShape a) (p : PollPoint) (ms : List MicroOp) :
    ({ polls := p, cycles := a .live ++ ms } : Entry).run c0 =
      ({ polls := p, cycles := a (.given b b') ++ ms } : Entry).run c0 := by
  cases h with
  | zp => exact Entry.run_first (agree_fetchZpAddress b b') hb
  | zpIndexed i => exact Entry.run_first (agree_fetchZpAddress b b') hb
  | abs =>
    exact Entry.run_second (agree_fetchLow b b') (takesOne_fetchLow b b') (agree_fetchHigh b b') hb hb'
  | absIndexed i =>
    exact Entry.run_second (agree_fetchLow b b') (takesOne_fetchLow b b') (agree_fetchHighIndexed b b' i) hb hb'
  | izx => exact Entry.run_first (agree_fetchPointer b b') hb
  | izy => exact Entry.run_first (agree_fetchPointer b b') hb

/-- The operand bytes of an entry, given or fetched (log 7). -/
theorem Shape.live {e : Fetch → Entry} (h : Shape e) : (e .live).run c0 = (e (.given b b')).run c0 := by
  cases h with
  | implied _ _ => rfl
  | accumulator _ _ => rfl
  | @immediate g _ _ =>
    exact Entry.run_first (m := cycle fun s => g (s.peek s.pc) (s.takeByte (s.peek s.pc)))
      (m' := cycle fun s => g b (s.takeByte b)) (by rintro s rfl; rfl) hb
  | read ha _ _ => exact ha.live hb hb' _ _
  | readAbsIndexed i _ _ =>
    exact Entry.run_second (agree_fetchLow b b') (takesOne_fetchLow b b') (agree_fetchHighIndexed b b' i) hb hb'
  | readIzy _ _ => exact Entry.run_first (agree_fetchPointer b b') hb
  | write ha _ => exact ha.live hb hb' _ _
  | rmw ha _ _ => exact ha.live hb hb' _ _
  | sh ha _ _ => exact ha.live hb hb' _ _
  | tas ha => exact ha.live hb hb' _ _
  | branch on v =>
    exact Entry.run_first (m := fun s => ({ s.takeByte (s.peek s.pc) with operand := s.peek s.pc }, s.flag on != v))
      (m' := fun s => ({ s.takeByte b with operand := b }, s.flag on != v)) (by rintro s rfl; rfl) hb
  | jmpAbs =>
    exact Entry.run_second (agree_fetchLow b b') (takesOne_fetchLow b b')
      (n := cycle fun s => { s.logged (.read s.pc (s.peek s.pc)) with pcl := s.al, pch := s.peek s.pc })
      (n' := cycle fun s => { s.logged (.read s.pc b') with pcl := s.al, pch := b' }) (by rintro s rfl; rfl) hb hb'
  | jmpIndirect =>
    exact Entry.run_second (agree_fetchLow b b') (takesOne_fetchLow b b') (agree_fetchHigh b b') hb hb'
  | jsr => exact Entry.run_first (agree_fetchLow b b') hb
  | rts => rfl
  | rti => rfl
  | brk => rfl
  | push _ => rfl
  | pull _ _ => rfl
  | jam => rfl

end live

/-- The two operand bytes of a decoded instruction, as its entry takes them. -/
theorem Fetch.word_wordOf (h l : Byte) : Fetch.word (wordOf h l) = .given l h := by
  simp [Fetch.word]

/-- An instruction whose 16-bit operand is decoded from two bytes runs with those bytes given. -/
theorem runInstr_word (op b b' : Byte) (e : Fetch → Entry) (s : State) :
    runInstr op (e (.word (wordOf b' b))) s = runInstr op (e (.given b b')) s := by
  rw [Fetch.word_wordOf]

section decoded
variable (b b' : Byte) (s : State)

theorem exec_row0 : ∀ n, 0 ≤ n → n < 16 →
    exec (decodeBytes (BitVec.ofNat 8 n) b b') s =
      runInstr (BitVec.ofNat 8 n) (opcodeEntry (BitVec.ofNat 8 n) (.given b b')) s := by
  intro n h h'
  interval_cases n
  · rfl
  · rfl
  · rfl
  · rfl
  · rfl
  · rfl
  · rfl
  · rfl
  · rfl
  · rfl
  · rfl
  · rfl
  · exact runInstr_word 0x0C b b' entryNopAbs0C s
  · exact runInstr_word 0x0D b b' entryOraAbs s
  · exact runInstr_word 0x0E b b' entryAslAbs s
  · exact runInstr_word 0x0F b b' entrySloAbs s

theorem exec_row1 : ∀ n, 16 ≤ n → n < 32 →
    exec (decodeBytes (BitVec.ofNat 8 n) b b') s =
      runInstr (BitVec.ofNat 8 n) (opcodeEntry (BitVec.ofNat 8 n) (.given b b')) s := by
  intro n h h'
  interval_cases n
  · rfl
  · rfl
  · rfl
  · rfl
  · rfl
  · rfl
  · rfl
  · rfl
  · rfl
  · exact runInstr_word 0x19 b b' entryOraAbsy s
  · rfl
  · exact runInstr_word 0x1B b b' entrySloAbsy s
  · exact runInstr_word 0x1C b b' entryNopAbsx1C s
  · exact runInstr_word 0x1D b b' entryOraAbsx s
  · exact runInstr_word 0x1E b b' entryAslAbsx s
  · exact runInstr_word 0x1F b b' entrySloAbsx s

theorem exec_row2 : ∀ n, 32 ≤ n → n < 48 →
    exec (decodeBytes (BitVec.ofNat 8 n) b b') s =
      runInstr (BitVec.ofNat 8 n) (opcodeEntry (BitVec.ofNat 8 n) (.given b b')) s := by
  intro n h h'
  interval_cases n
  · exact runInstr_word 0x20 b b' entryJsrAbs s
  · rfl
  · rfl
  · rfl
  · rfl
  · rfl
  · rfl
  · rfl
  · rfl
  · rfl
  · rfl
  · rfl
  · exact runInstr_word 0x2C b b' entryBitAbs s
  · exact runInstr_word 0x2D b b' entryAndAbs s
  · exact runInstr_word 0x2E b b' entryRolAbs s
  · exact runInstr_word 0x2F b b' entryRlaAbs s

theorem exec_row3 : ∀ n, 48 ≤ n → n < 64 →
    exec (decodeBytes (BitVec.ofNat 8 n) b b') s =
      runInstr (BitVec.ofNat 8 n) (opcodeEntry (BitVec.ofNat 8 n) (.given b b')) s := by
  intro n h h'
  interval_cases n
  · rfl
  · rfl
  · rfl
  · rfl
  · rfl
  · rfl
  · rfl
  · rfl
  · rfl
  · exact runInstr_word 0x39 b b' entryAndAbsy s
  · rfl
  · exact runInstr_word 0x3B b b' entryRlaAbsy s
  · exact runInstr_word 0x3C b b' entryNopAbsx3C s
  · exact runInstr_word 0x3D b b' entryAndAbsx s
  · exact runInstr_word 0x3E b b' entryRolAbsx s
  · exact runInstr_word 0x3F b b' entryRlaAbsx s

theorem exec_row4 : ∀ n, 64 ≤ n → n < 80 →
    exec (decodeBytes (BitVec.ofNat 8 n) b b') s =
      runInstr (BitVec.ofNat 8 n) (opcodeEntry (BitVec.ofNat 8 n) (.given b b')) s := by
  intro n h h'
  interval_cases n
  · rfl
  · rfl
  · rfl
  · rfl
  · rfl
  · rfl
  · rfl
  · rfl
  · rfl
  · rfl
  · rfl
  · rfl
  · exact runInstr_word 0x4C b b' entryJmpAbs s
  · exact runInstr_word 0x4D b b' entryEorAbs s
  · exact runInstr_word 0x4E b b' entryLsrAbs s
  · exact runInstr_word 0x4F b b' entrySreAbs s

theorem exec_row5 : ∀ n, 80 ≤ n → n < 96 →
    exec (decodeBytes (BitVec.ofNat 8 n) b b') s =
      runInstr (BitVec.ofNat 8 n) (opcodeEntry (BitVec.ofNat 8 n) (.given b b')) s := by
  intro n h h'
  interval_cases n
  · rfl
  · rfl
  · rfl
  · rfl
  · rfl
  · rfl
  · rfl
  · rfl
  · rfl
  · exact runInstr_word 0x59 b b' entryEorAbsy s
  · rfl
  · exact runInstr_word 0x5B b b' entrySreAbsy s
  · exact runInstr_word 0x5C b b' entryNopAbsx5C s
  · exact runInstr_word 0x5D b b' entryEorAbsx s
  · exact runInstr_word 0x5E b b' entryLsrAbsx s
  · exact runInstr_word 0x5F b b' entrySreAbsx s

theorem exec_row6 : ∀ n, 96 ≤ n → n < 112 →
    exec (decodeBytes (BitVec.ofNat 8 n) b b') s =
      runInstr (BitVec.ofNat 8 n) (opcodeEntry (BitVec.ofNat 8 n) (.given b b')) s := by
  intro n h h'
  interval_cases n
  · rfl
  · rfl
  · rfl
  · rfl
  · rfl
  · rfl
  · rfl
  · rfl
  · rfl
  · rfl
  · rfl
  · rfl
  · exact runInstr_word 0x6C b b' entryJmpInd s
  · exact runInstr_word 0x6D b b' entryAdcAbs s
  · exact runInstr_word 0x6E b b' entryRorAbs s
  · exact runInstr_word 0x6F b b' entryRraAbs s

theorem exec_row7 : ∀ n, 112 ≤ n → n < 128 →
    exec (decodeBytes (BitVec.ofNat 8 n) b b') s =
      runInstr (BitVec.ofNat 8 n) (opcodeEntry (BitVec.ofNat 8 n) (.given b b')) s := by
  intro n h h'
  interval_cases n
  · rfl
  · rfl
  · rfl
  · rfl
  · rfl
  · rfl
  · rfl
  · rfl
  · rfl
  · exact runInstr_word 0x79 b b' entryAdcAbsy s
  · rfl
  · exact runInstr_word 0x7B b b' entryRraAbsy s
  · exact runInstr_word 0x7C b b' entryNopAbsx7C s
  · exact runInstr_word 0x7D b b' entryAdcAbsx s
  · exact runInstr_word 0x7E b b' entryRorAbsx s
  · exact runInstr_word 0x7F b b' entryRraAbsx s

theorem exec_row8 : ∀ n, 128 ≤ n → n < 144 →
    exec (decodeBytes (BitVec.ofNat 8 n) b b') s =
      runInstr (BitVec.ofNat 8 n) (opcodeEntry (BitVec.ofNat 8 n) (.given b b')) s := by
  intro n h h'
  interval_cases n
  · rfl
  · rfl
  · rfl
  · rfl
  · rfl
  · rfl
  · rfl
  · rfl
  · rfl
  · rfl
  · rfl
  · rfl
  · exact runInstr_word 0x8C b b' entryStyAbs s
  · exact runInstr_word 0x8D b b' entryStaAbs s
  · exact runInstr_word 0x8E b b' entryStxAbs s
  · exact runInstr_word 0x8F b b' entrySaxAbs s

theorem exec_row9 : ∀ n, 144 ≤ n → n < 160 →
    exec (decodeBytes (BitVec.ofNat 8 n) b b') s =
      runInstr (BitVec.ofNat 8 n) (opcodeEntry (BitVec.ofNat 8 n) (.given b b')) s := by
  intro n h h'
  interval_cases n
  · rfl
  · rfl
  · rfl
  · rfl
  · rfl
  · rfl
  · rfl
  · rfl
  · rfl
  · exact runInstr_word 0x99 b b' entryStaAbsy s
  · rfl
  · exact runInstr_word 0x9B b b' entryTasAbsy s
  · exact runInstr_word 0x9C b b' entryShyAbsx s
  · exact runInstr_word 0x9D b b' entryStaAbsx s
  · exact runInstr_word 0x9E b b' entryShxAbsy s
  · exact runInstr_word 0x9F b b' entryShaAbsy s

theorem exec_rowA : ∀ n, 160 ≤ n → n < 176 →
    exec (decodeBytes (BitVec.ofNat 8 n) b b') s =
      runInstr (BitVec.ofNat 8 n) (opcodeEntry (BitVec.ofNat 8 n) (.given b b')) s := by
  intro n h h'
  interval_cases n
  · rfl
  · rfl
  · rfl
  · rfl
  · rfl
  · rfl
  · rfl
  · rfl
  · rfl
  · rfl
  · rfl
  · rfl
  · exact runInstr_word 0xAC b b' entryLdyAbs s
  · exact runInstr_word 0xAD b b' entryLdaAbs s
  · exact runInstr_word 0xAE b b' entryLdxAbs s
  · exact runInstr_word 0xAF b b' entryLaxAbs s

theorem exec_rowB : ∀ n, 176 ≤ n → n < 192 →
    exec (decodeBytes (BitVec.ofNat 8 n) b b') s =
      runInstr (BitVec.ofNat 8 n) (opcodeEntry (BitVec.ofNat 8 n) (.given b b')) s := by
  intro n h h'
  interval_cases n
  · rfl
  · rfl
  · rfl
  · rfl
  · rfl
  · rfl
  · rfl
  · rfl
  · rfl
  · exact runInstr_word 0xB9 b b' entryLdaAbsy s
  · rfl
  · exact runInstr_word 0xBB b b' entryLasAbsy s
  · exact runInstr_word 0xBC b b' entryLdyAbsx s
  · exact runInstr_word 0xBD b b' entryLdaAbsx s
  · exact runInstr_word 0xBE b b' entryLdxAbsy s
  · exact runInstr_word 0xBF b b' entryLaxAbsy s

theorem exec_rowC : ∀ n, 192 ≤ n → n < 208 →
    exec (decodeBytes (BitVec.ofNat 8 n) b b') s =
      runInstr (BitVec.ofNat 8 n) (opcodeEntry (BitVec.ofNat 8 n) (.given b b')) s := by
  intro n h h'
  interval_cases n
  · rfl
  · rfl
  · rfl
  · rfl
  · rfl
  · rfl
  · rfl
  · rfl
  · rfl
  · rfl
  · rfl
  · rfl
  · exact runInstr_word 0xCC b b' entryCpyAbs s
  · exact runInstr_word 0xCD b b' entryCmpAbs s
  · exact runInstr_word 0xCE b b' entryDecAbs s
  · exact runInstr_word 0xCF b b' entryDcpAbs s

theorem exec_rowD : ∀ n, 208 ≤ n → n < 224 →
    exec (decodeBytes (BitVec.ofNat 8 n) b b') s =
      runInstr (BitVec.ofNat 8 n) (opcodeEntry (BitVec.ofNat 8 n) (.given b b')) s := by
  intro n h h'
  interval_cases n
  · rfl
  · rfl
  · rfl
  · rfl
  · rfl
  · rfl
  · rfl
  · rfl
  · rfl
  · exact runInstr_word 0xD9 b b' entryCmpAbsy s
  · rfl
  · exact runInstr_word 0xDB b b' entryDcpAbsy s
  · exact runInstr_word 0xDC b b' entryNopAbsxDC s
  · exact runInstr_word 0xDD b b' entryCmpAbsx s
  · exact runInstr_word 0xDE b b' entryDecAbsx s
  · exact runInstr_word 0xDF b b' entryDcpAbsx s

theorem exec_rowE : ∀ n, 224 ≤ n → n < 240 →
    exec (decodeBytes (BitVec.ofNat 8 n) b b') s =
      runInstr (BitVec.ofNat 8 n) (opcodeEntry (BitVec.ofNat 8 n) (.given b b')) s := by
  intro n h h'
  interval_cases n
  · rfl
  · rfl
  · rfl
  · rfl
  · rfl
  · rfl
  · rfl
  · rfl
  · rfl
  · rfl
  · rfl
  · rfl
  · exact runInstr_word 0xEC b b' entryCpxAbs s
  · exact runInstr_word 0xED b b' entrySbcAbs s
  · exact runInstr_word 0xEE b b' entryIncAbs s
  · exact runInstr_word 0xEF b b' entryIscAbs s

theorem exec_rowF : ∀ n, 240 ≤ n → n < 256 →
    exec (decodeBytes (BitVec.ofNat 8 n) b b') s =
      runInstr (BitVec.ofNat 8 n) (opcodeEntry (BitVec.ofNat 8 n) (.given b b')) s := by
  intro n h h'
  interval_cases n
  · rfl
  · rfl
  · rfl
  · rfl
  · rfl
  · rfl
  · rfl
  · rfl
  · rfl
  · exact runInstr_word 0xF9 b b' entrySbcAbsy s
  · rfl
  · exact runInstr_word 0xFB b b' entryIscAbsy s
  · exact runInstr_word 0xFC b b' entryNopAbsxFC s
  · exact runInstr_word 0xFD b b' entrySbcAbsx s
  · exact runInstr_word 0xFE b b' entryIncAbsx s
  · exact runInstr_word 0xFF b b' entryIscAbsx s

/-- exec of the instruction that three bytes decode to is its table entry with those bytes given (R105, R130). -/
theorem exec_decodeBytes (op : Byte) :
    exec (decodeBytes op b b') s = runInstr op (opcodeEntry op (.given b b')) s := by
  revert op
  refine byte_forall fun n hn => ?_
  rcases Nat.lt_or_ge n 16 with h1 | h1
  · exact exec_row0 b b' s n (Nat.zero_le n) h1
  rcases Nat.lt_or_ge n 32 with h2 | h2
  · exact exec_row1 b b' s n h1 h2
  rcases Nat.lt_or_ge n 48 with h3 | h3
  · exact exec_row2 b b' s n h2 h3
  rcases Nat.lt_or_ge n 64 with h4 | h4
  · exact exec_row3 b b' s n h3 h4
  rcases Nat.lt_or_ge n 80 with h5 | h5
  · exact exec_row4 b b' s n h4 h5
  rcases Nat.lt_or_ge n 96 with h6 | h6
  · exact exec_row5 b b' s n h5 h6
  rcases Nat.lt_or_ge n 112 with h7 | h7
  · exact exec_row6 b b' s n h6 h7
  rcases Nat.lt_or_ge n 128 with h8 | h8
  · exact exec_row7 b b' s n h7 h8
  rcases Nat.lt_or_ge n 144 with h9 | h9
  · exact exec_row8 b b' s n h8 h9
  rcases Nat.lt_or_ge n 160 with h10 | h10
  · exact exec_row9 b b' s n h9 h10
  rcases Nat.lt_or_ge n 176 with h11 | h11
  · exact exec_rowA b b' s n h10 h11
  rcases Nat.lt_or_ge n 192 with h12 | h12
  · exact exec_rowB b b' s n h11 h12
  rcases Nat.lt_or_ge n 208 with h13 | h13
  · exact exec_rowC b b' s n h12 h13
  rcases Nat.lt_or_ge n 224 with h14 | h14
  · exact exec_rowD b b' s n h13 h14
  rcases Nat.lt_or_ge n 240 with h15 | h15
  · exact exec_rowE b b' s n h14 h15
  exact exec_rowF b b' s n h15 hn

end decoded

theorem State.pc_fetchOpcode (s : State) (op : Byte) : (s.fetchOpcode op).pc = s.pc + 1 := wordOf_hi8_lo8 (s.pc + 1)

/-- The byte after one that is fetched, as the environment answers it then. -/
theorem State.peek_takeByte_pc (c : State) (b : Byte) :
    (c.takeByte b).peek (c.takeByte b).pc = c.platform.read (c.history ++ [.read c.pc b]) (c.pc + 1) := by
  have h : (c.takeByte b).pc = c.pc + 1 := wordOf_hi8_lo8 _
  rw [h, State.peek, State.takeByte_history]
  rfl

/-- At a boundary with no interrupt pending, exec of the instruction at PC runs the table entry that Tick runs. -/
theorem exec_fetchInstr (s : State) :
    exec s.fetchInstr s = .next ((opcodeEntry (s.peek s.pc) .live).run (s.fetchOpcode (s.peek s.pc))) := by
  rw [State.fetchInstr, exec_decodeBytes, runInstr]
  refine congrArg Host.Outcome.next ((opcodeEntry_shape _).live rfl ?_).symm
  exact (State.peek_takeByte_pc ..).symm

/-! Running an entry is a sequence of Ticks. -/

/-- A Tick inside an instruction, in a cycle of its entry. -/
theorem tick_inside {s : State} {done rest : List MicroOp} {m : MicroOp} (hc : (microOps s.opCode).cycles = done ++ m :: rest)
    (hk : s.opCodeCycle = done.length + 1) :
    tick s = .next ((microOps s.opCode).advance (done.length + 1) (m s).1 (m s).2) := by
  have h : (microOps s.opCode).cycles[done.length]? = some m := by simp [hc]
  simp only [tick, hk, Nat.add_one_ne_zero, if_false, Nat.add_sub_cancel, h]

/-- From inside an instruction, the Ticks run the rest of its entry, one for each access, and `finish` does the same. -/
theorem ticks_runFrom (k : OpCode) : ∀ (rest done : List MicroOp) (s : State), (microOps k).cycles = done ++ rest →
    rest ≠ [] → s.opCode = k → s.opCodeCycle = done.length + 1 →
    let t := (microOps k).runFrom (done.length + 1) rest s
    ∃ n, ticks n s = .next t ∧ t.bus.length = s.bus.length + n ∧ n ≤ rest.length ∧ t.opCodeCycle = 0 ∧
      ∀ j, n ≤ j → finish j s = .next t
  | [], _, _, _, h, _, _ => absurd rfl h
  | m :: rest, done, s, hc, _, ho, hk => by
    subst ho
    have hm : Acts s (m s).1 := microOps_good s.opCode m (by rw [hc]; simp) s
    have ht := tick_inside hc hk
    obtain ⟨e, hb⟩ := hm.bus
    by_cases hend : (m s).2 || done.length + 1 + 1 == (microOps s.opCode).length
    · have hr : (microOps s.opCode).runFrom (done.length + 1) (m :: rest) s =
          (microOps s.opCode).advance (done.length + 1) (m s).1 (m s).2 := by
        simp only [Entry.runFrom]
        by_cases h2 : (m s).2
        · simp [h2]
        · have hl : rest = [] := by
            have h3 : done.length + 1 + 1 = (microOps s.opCode).length := by simpa [h2] using hend
            rw [Entry.length, hc, List.length_append, List.length_cons] at h3
            exact List.eq_nil_of_length_eq_zero (by omega)
          simp [h2, hl, Entry.runFrom]
      simp only [hr]
      refine ⟨1, by simp [ticks, ht], by simp [hb], by simp, by simp [hend], ?_⟩
      intro j hj
      obtain ⟨j, rfl⟩ : ∃ i, j = i + 1 := ⟨j - 1, by omega⟩
      simp [finish, ht, hend]
    · have hends : (m s).2 = false := by simp at hend; exact hend.1
      have hr : (microOps s.opCode).runFrom (done.length + 1) (m :: rest) s =
          (microOps s.opCode).runFrom (done.length + 1 + 1) rest
            ((microOps s.opCode).advance (done.length + 1) (m s).1 (m s).2) := by
        simp [Entry.runFrom, hends]
      have hrest : rest ≠ [] := by
        rintro rfl
        simp [Entry.length, hc] at hend
      obtain ⟨n, h1, h2, h3, h4, h5⟩ := ticks_runFrom s.opCode rest (done ++ [m])
        ((microOps s.opCode).advance (done.length + 1) (m s).1 (m s).2) (by simp [hc]) hrest (by simp [hm.opCode])
        (by simp [hend])
      simp only [List.length_append, List.length_cons, List.length_nil, Nat.zero_add] at h1 h2 h4 h5
      simp only [hr]
      refine ⟨n + 1, by simp only [ticks, ht]; exact h1, ?_, by simp; omega, h4, ?_⟩
      · rw [h2]; simp [hb]; omega
      · intro j hj
        obtain ⟨j, rfl⟩ : ∃ i, j = i + 1 := ⟨j - 1, by omega⟩
        simp only [finish, ht]
        rw [if_neg (by simp [hend]), h5 j (by omega)]

/-- The state that c0 leaves, before its poll (R133): one access, and OpCodeCycle still at 0. -/
theorem firstCycle_bus (s : State) : s.firstCycle.bus = [.read s.pc (s.peek s.pc)] := by
  simp only [State.firstCycle, State.dispatchInterrupt]
  split
  · split <;> rfl
  · rfl

/-- From a boundary, the Ticks run the whole entry that c0 chooses, one for each access (R135, R170). -/
theorem ticks_boundary {s : State} (h : s.opCodeCycle = 0) :
    let t := (microOps s.firstCycle.opCode).run s.firstCycle
    ticks t.bus.length s = .next t ∧ t.opCodeCycle = 0 := by
  intro t
  have ht : tick s = .next ((microOps s.firstCycle.opCode).advance 0 s.firstCycle false) := by
    simp only [tick, h, if_true]
  match hc : (microOps s.firstCycle.opCode).cycles with
  | [] =>
    have hr : t = (microOps s.firstCycle.opCode).advance 0 s.firstCycle false := by
      show Entry.runFrom _ 1 _ _ = _
      rw [hc]; rfl
    rw [hr]
    simp [firstCycle_bus, ticks, ht, Entry.length, hc]
  | m :: rest =>
    obtain ⟨n, h1, h2, -, h4, -⟩ := ticks_runFrom s.firstCycle.opCode (m :: rest) []
      ((microOps s.firstCycle.opCode).advance 0 s.firstCycle false) (by simp [hc]) (by simp) (by simp)
      (by simp [Entry.length, hc])
    have hr : t = (microOps s.firstCycle.opCode).runFrom 1 (m :: rest)
        ((microOps s.firstCycle.opCode).advance 0 s.firstCycle false) := by
      show Entry.runFrom _ 1 _ _ = _
      rw [hc]
    simp only [List.length_nil, Nat.zero_add, ← hr] at h1 h2 h4
    refine ⟨?_, h4⟩
    rw [h2, Entry.advance_bus, firstCycle_bus]
    simp only [List.length_cons, List.length_nil, Nat.zero_add, Nat.add_comm 1 n, ticks, ht]
    exact h1

/-- From a boundary, a step runs that entry too (R133, R135). -/
theorem step_boundary {s : State} (h : s.opCodeCycle = 0) :
    step s = .next ((microOps s.firstCycle.opCode).run s.firstCycle) := by
  simp only [step, h, if_true]
  split
  case isTrue hp =>
    refine congrArg Host.Outcome.next ?_
    simp only [State.takeInterrupt, State.firstCycle, hp, if_true]
    by_cases hn : s.nmiSignal <;> simp only [State.dispatchInterrupt, hn] <;> rfl
  case isFalse hp =>
    rw [exec_fetchInstr]
    simp only [State.firstCycle, hp]
    rfl

/-- From inside an instruction, a step runs the rest of its entry (R135, log 15). -/
theorem step_inside {s : State} (h : s.opCodeCycle ≠ 0) (hi : s.inTable) :
    step s = .next ((microOps s.opCode).runFrom s.opCodeCycle ((microOps s.opCode).cycles.drop (s.opCodeCycle - 1)) s) := by
  have hl : (microOps s.opCode).length ≤ 8 := by
    cases hs : s.opCode with
    | op op => exact (opcodeEntry_shape op).length_le .live
    | irqSequence => exact Nat.le_of_ble_eq_true rfl
    | nmiSequence => exact Nat.le_of_ble_eq_true rfl
  have hi' : s.opCodeCycle < (microOps s.opCode).cycles.length + 1 := hi
  simp only [Entry.length] at hl
  obtain ⟨n, -, -, h3, -, h5⟩ := ticks_runFrom s.opCode ((microOps s.opCode).cycles.drop (s.opCodeCycle - 1))
    ((microOps s.opCode).cycles.take (s.opCodeCycle - 1)) s (List.take_append_drop ..).symm
    (by simp only [ne_eq, List.drop_eq_nil_iff]; omega) rfl (by simp; omega)
  have hlen : ((microOps s.opCode).cycles.take (s.opCodeCycle - 1)).length + 1 = s.opCodeCycle := by simp; omega
  rw [hlen] at h5
  simp only [step, h, if_false]
  refine h5 _ ?_
  simp at h3
  simp only [maxRemainingCycles]
  omega

end Sys2Proof.Machine
end

