-- ==== Sys2Proof/Tests/Slice0.lean ====
section
/-! SUPPORT. Tests: ill-formed instructions, a word of every opcode slot, one step of a vector of 95_test_vectors.md for each mnemonic, the interrupt vectors, a launch and a device, and a witness for the hypotheses of every statement. -/

namespace Sys2Proof.Tests

open Sys2Proof Sys2Proof.Machine

/-! Ill-formed instructions (R100, R101). -/

theorem test_wellFormed_accepts : (⟨0xAD, [0x34, 0x12]⟩ : RawInstr).wellFormed = true := by decide
theorem test_opcode_is_no_byte : (⟨256, []⟩ : RawInstr).opcodeIsByte = false := by decide
theorem test_operand_count_short : (⟨0xAD, [0x34]⟩ : RawInstr).countFits = false := by decide
theorem test_operand_count_long : (⟨0xEA, [0x00]⟩ : RawInstr).countFits = false := by decide
theorem test_operand_is_no_byte : (⟨0xA9, [256]⟩ : RawInstr).operandsAreBytes = false := by decide
theorem test_wellFormed_refuses :
    (⟨256, []⟩ : RawInstr).wellFormed = false ∧ (⟨0xAD, [0x34]⟩ : RawInstr).wellFormed = false ∧
      (⟨0xA9, [256]⟩ : RawInstr).wellFormed = false := by decide

/-! A word of each opcode slot, from the listing of 30_encoding.md section 4: opcode, operand 0x12 or 0x1234, low byte
first. -/

/-- The instruction that a word decodes to when nothing is left over. -/
def decodesTo (bytes : List Byte) : Option Instr :=
  match decode bytes with
  | .ok (i, []) => some i
  | _ => none

theorem test_decode_row0 :
    [[0x00], [0x01, 0x12], [0x02], [0x03, 0x12], [0x04, 0x12], [0x05, 0x12], [0x06, 0x12], [0x07, 0x12],
     [0x08], [0x09, 0x12], [0x0A], [0x0B, 0x12], [0x0C, 0x34, 0x12], [0x0D, 0x34, 0x12], [0x0E, 0x34, 0x12],
     [0x0F, 0x34, 0x12]].map decodesTo =
    [some .brk, some (.oraIzx 0x12), some .jam02, some (.sloIzx 0x12), some (.nopZp04 0x12),
     some (.oraZp 0x12), some (.aslZp 0x12), some (.sloZp 0x12), some .php, some (.oraImm 0x12), some .aslAcc,
     some (.ancImm0B 0x12), some (.nopAbs0C 0x1234), some (.oraAbs 0x1234), some (.aslAbs 0x1234),
     some (.sloAbs 0x1234)] := by decide

theorem test_decode_row1 :
    [[0x10, 0x12], [0x11, 0x12], [0x12], [0x13, 0x12], [0x14, 0x12], [0x15, 0x12], [0x16, 0x12], [0x17, 0x12],
     [0x18], [0x19, 0x34, 0x12], [0x1A], [0x1B, 0x34, 0x12], [0x1C, 0x34, 0x12], [0x1D, 0x34, 0x12],
     [0x1E, 0x34, 0x12], [0x1F, 0x34, 0x12]].map decodesTo =
    [some (.bpl 0x12), some (.oraIzy 0x12), some .jam12, some (.sloIzy 0x12), some (.nopZpx14 0x12),
     some (.oraZpx 0x12), some (.aslZpx 0x12), some (.sloZpx 0x12), some .clc, some (.oraAbsy 0x1234),
     some .nopImp1A, some (.sloAbsy 0x1234), some (.nopAbsx1C 0x1234), some (.oraAbsx 0x1234),
     some (.aslAbsx 0x1234), some (.sloAbsx 0x1234)] := by decide

theorem test_decode_row2 :
    [[0x20, 0x34, 0x12], [0x21, 0x12], [0x22], [0x23, 0x12], [0x24, 0x12], [0x25, 0x12], [0x26, 0x12],
     [0x27, 0x12], [0x28], [0x29, 0x12], [0x2A], [0x2B, 0x12], [0x2C, 0x34, 0x12], [0x2D, 0x34, 0x12],
     [0x2E, 0x34, 0x12], [0x2F, 0x34, 0x12]].map decodesTo =
    [some (.jsrAbs 0x1234), some (.andIzx 0x12), some .jam22, some (.rlaIzx 0x12), some (.bitZp 0x12),
     some (.andZp 0x12), some (.rolZp 0x12), some (.rlaZp 0x12), some .plp, some (.andImm 0x12), some .rolAcc,
     some (.ancImm2B 0x12), some (.bitAbs 0x1234), some (.andAbs 0x1234), some (.rolAbs 0x1234),
     some (.rlaAbs 0x1234)] := by decide

theorem test_decode_row3 :
    [[0x30, 0x12], [0x31, 0x12], [0x32], [0x33, 0x12], [0x34, 0x12], [0x35, 0x12], [0x36, 0x12], [0x37, 0x12],
     [0x38], [0x39, 0x34, 0x12], [0x3A], [0x3B, 0x34, 0x12], [0x3C, 0x34, 0x12], [0x3D, 0x34, 0x12],
     [0x3E, 0x34, 0x12], [0x3F, 0x34, 0x12]].map decodesTo =
    [some (.bmi 0x12), some (.andIzy 0x12), some .jam32, some (.rlaIzy 0x12), some (.nopZpx34 0x12),
     some (.andZpx 0x12), some (.rolZpx 0x12), some (.rlaZpx 0x12), some .sec, some (.andAbsy 0x1234),
     some .nopImp3A, some (.rlaAbsy 0x1234), some (.nopAbsx3C 0x1234), some (.andAbsx 0x1234),
     some (.rolAbsx 0x1234), some (.rlaAbsx 0x1234)] := by decide

theorem test_decode_row4 :
    [[0x40], [0x41, 0x12], [0x42], [0x43, 0x12], [0x44, 0x12], [0x45, 0x12], [0x46, 0x12], [0x47, 0x12],
     [0x48], [0x49, 0x12], [0x4A], [0x4B, 0x12], [0x4C, 0x34, 0x12], [0x4D, 0x34, 0x12], [0x4E, 0x34, 0x12],
     [0x4F, 0x34, 0x12]].map decodesTo =
    [some .rti, some (.eorIzx 0x12), some .jam42, some (.sreIzx 0x12), some (.nopZp44 0x12),
     some (.eorZp 0x12), some (.lsrZp 0x12), some (.sreZp 0x12), some .pha, some (.eorImm 0x12), some .lsrAcc,
     some (.alrImm 0x12), some (.jmpAbs 0x1234), some (.eorAbs 0x1234), some (.lsrAbs 0x1234),
     some (.sreAbs 0x1234)] := by decide

theorem test_decode_row5 :
    [[0x50, 0x12], [0x51, 0x12], [0x52], [0x53, 0x12], [0x54, 0x12], [0x55, 0x12], [0x56, 0x12], [0x57, 0x12],
     [0x58], [0x59, 0x34, 0x12], [0x5A], [0x5B, 0x34, 0x12], [0x5C, 0x34, 0x12], [0x5D, 0x34, 0x12],
     [0x5E, 0x34, 0x12], [0x5F, 0x34, 0x12]].map decodesTo =
    [some (.bvc 0x12), some (.eorIzy 0x12), some .jam52, some (.sreIzy 0x12), some (.nopZpx54 0x12),
     some (.eorZpx 0x12), some (.lsrZpx 0x12), some (.sreZpx 0x12), some .cli, some (.eorAbsy 0x1234),
     some .nopImp5A, some (.sreAbsy 0x1234), some (.nopAbsx5C 0x1234), some (.eorAbsx 0x1234),
     some (.lsrAbsx 0x1234), some (.sreAbsx 0x1234)] := by decide

theorem test_decode_row6 :
    [[0x60], [0x61, 0x12], [0x62], [0x63, 0x12], [0x64, 0x12], [0x65, 0x12], [0x66, 0x12], [0x67, 0x12],
     [0x68], [0x69, 0x12], [0x6A], [0x6B, 0x12], [0x6C, 0x34, 0x12], [0x6D, 0x34, 0x12], [0x6E, 0x34, 0x12],
     [0x6F, 0x34, 0x12]].map decodesTo =
    [some .rts, some (.adcIzx 0x12), some .jam62, some (.rraIzx 0x12), some (.nopZp64 0x12),
     some (.adcZp 0x12), some (.rorZp 0x12), some (.rraZp 0x12), some .pla, some (.adcImm 0x12), some .rorAcc,
     some (.arrImm 0x12), some (.jmpInd 0x1234), some (.adcAbs 0x1234), some (.rorAbs 0x1234),
     some (.rraAbs 0x1234)] := by decide

theorem test_decode_row7 :
    [[0x70, 0x12], [0x71, 0x12], [0x72], [0x73, 0x12], [0x74, 0x12], [0x75, 0x12], [0x76, 0x12], [0x77, 0x12],
     [0x78], [0x79, 0x34, 0x12], [0x7A], [0x7B, 0x34, 0x12], [0x7C, 0x34, 0x12], [0x7D, 0x34, 0x12],
     [0x7E, 0x34, 0x12], [0x7F, 0x34, 0x12]].map decodesTo =
    [some (.bvs 0x12), some (.adcIzy 0x12), some .jam72, some (.rraIzy 0x12), some (.nopZpx74 0x12),
     some (.adcZpx 0x12), some (.rorZpx 0x12), some (.rraZpx 0x12), some .sei, some (.adcAbsy 0x1234),
     some .nopImp7A, some (.rraAbsy 0x1234), some (.nopAbsx7C 0x1234), some (.adcAbsx 0x1234),
     some (.rorAbsx 0x1234), some (.rraAbsx 0x1234)] := by decide

theorem test_decode_row8 :
    [[0x80, 0x12], [0x81, 0x12], [0x82, 0x12], [0x83, 0x12], [0x84, 0x12], [0x85, 0x12], [0x86, 0x12],
     [0x87, 0x12], [0x88], [0x89, 0x12], [0x8A], [0x8B, 0x12], [0x8C, 0x34, 0x12], [0x8D, 0x34, 0x12],
     [0x8E, 0x34, 0x12], [0x8F, 0x34, 0x12]].map decodesTo =
    [some (.nopImm80 0x12), some (.staIzx 0x12), some (.nopImm82 0x12), some (.saxIzx 0x12),
     some (.styZp 0x12), some (.staZp 0x12), some (.stxZp 0x12), some (.saxZp 0x12), some .dey,
     some (.nopImm89 0x12), some .txa, some (.aneImm 0x12), some (.styAbs 0x1234), some (.staAbs 0x1234),
     some (.stxAbs 0x1234), some (.saxAbs 0x1234)] := by decide

theorem test_decode_row9 :
    [[0x90, 0x12], [0x91, 0x12], [0x92], [0x93, 0x12], [0x94, 0x12], [0x95, 0x12], [0x96, 0x12], [0x97, 0x12],
     [0x98], [0x99, 0x34, 0x12], [0x9A], [0x9B, 0x34, 0x12], [0x9C, 0x34, 0x12], [0x9D, 0x34, 0x12],
     [0x9E, 0x34, 0x12], [0x9F, 0x34, 0x12]].map decodesTo =
    [some (.bcc 0x12), some (.staIzy 0x12), some .jam92, some (.shaIzy 0x12), some (.styZpx 0x12),
     some (.staZpx 0x12), some (.stxZpy 0x12), some (.saxZpy 0x12), some .tya, some (.staAbsy 0x1234),
     some .txs, some (.tasAbsy 0x1234), some (.shyAbsx 0x1234), some (.staAbsx 0x1234), some (.shxAbsy 0x1234),
     some (.shaAbsy 0x1234)] := by decide

theorem test_decode_rowA :
    [[0xA0, 0x12], [0xA1, 0x12], [0xA2, 0x12], [0xA3, 0x12], [0xA4, 0x12], [0xA5, 0x12], [0xA6, 0x12],
     [0xA7, 0x12], [0xA8], [0xA9, 0x12], [0xAA], [0xAB, 0x12], [0xAC, 0x34, 0x12], [0xAD, 0x34, 0x12],
     [0xAE, 0x34, 0x12], [0xAF, 0x34, 0x12]].map decodesTo =
    [some (.ldyImm 0x12), some (.ldaIzx 0x12), some (.ldxImm 0x12), some (.laxIzx 0x12), some (.ldyZp 0x12),
     some (.ldaZp 0x12), some (.ldxZp 0x12), some (.laxZp 0x12), some .tay, some (.ldaImm 0x12), some .tax,
     some (.lxaImm 0x12), some (.ldyAbs 0x1234), some (.ldaAbs 0x1234), some (.ldxAbs 0x1234),
     some (.laxAbs 0x1234)] := by decide

theorem test_decode_rowB :
    [[0xB0, 0x12], [0xB1, 0x12], [0xB2], [0xB3, 0x12], [0xB4, 0x12], [0xB5, 0x12], [0xB6, 0x12], [0xB7, 0x12],
     [0xB8], [0xB9, 0x34, 0x12], [0xBA], [0xBB, 0x34, 0x12], [0xBC, 0x34, 0x12], [0xBD, 0x34, 0x12],
     [0xBE, 0x34, 0x12], [0xBF, 0x34, 0x12]].map decodesTo =
    [some (.bcs 0x12), some (.ldaIzy 0x12), some .jamB2, some (.laxIzy 0x12), some (.ldyZpx 0x12),
     some (.ldaZpx 0x12), some (.ldxZpy 0x12), some (.laxZpy 0x12), some .clv, some (.ldaAbsy 0x1234),
     some .tsx, some (.lasAbsy 0x1234), some (.ldyAbsx 0x1234), some (.ldaAbsx 0x1234), some (.ldxAbsy 0x1234),
     some (.laxAbsy 0x1234)] := by decide

theorem test_decode_rowC :
    [[0xC0, 0x12], [0xC1, 0x12], [0xC2, 0x12], [0xC3, 0x12], [0xC4, 0x12], [0xC5, 0x12], [0xC6, 0x12],
     [0xC7, 0x12], [0xC8], [0xC9, 0x12], [0xCA], [0xCB, 0x12], [0xCC, 0x34, 0x12], [0xCD, 0x34, 0x12],
     [0xCE, 0x34, 0x12], [0xCF, 0x34, 0x12]].map decodesTo =
    [some (.cpyImm 0x12), some (.cmpIzx 0x12), some (.nopImmC2 0x12), some (.dcpIzx 0x12), some (.cpyZp 0x12),
     some (.cmpZp 0x12), some (.decZp 0x12), some (.dcpZp 0x12), some .iny, some (.cmpImm 0x12), some .dex,
     some (.sbxImm 0x12), some (.cpyAbs 0x1234), some (.cmpAbs 0x1234), some (.decAbs 0x1234),
     some (.dcpAbs 0x1234)] := by decide

theorem test_decode_rowD :
    [[0xD0, 0x12], [0xD1, 0x12], [0xD2], [0xD3, 0x12], [0xD4, 0x12], [0xD5, 0x12], [0xD6, 0x12], [0xD7, 0x12],
     [0xD8], [0xD9, 0x34, 0x12], [0xDA], [0xDB, 0x34, 0x12], [0xDC, 0x34, 0x12], [0xDD, 0x34, 0x12],
     [0xDE, 0x34, 0x12], [0xDF, 0x34, 0x12]].map decodesTo =
    [some (.bne 0x12), some (.cmpIzy 0x12), some .jamD2, some (.dcpIzy 0x12), some (.nopZpxD4 0x12),
     some (.cmpZpx 0x12), some (.decZpx 0x12), some (.dcpZpx 0x12), some .cld, some (.cmpAbsy 0x1234),
     some .nopImpDA, some (.dcpAbsy 0x1234), some (.nopAbsxDC 0x1234), some (.cmpAbsx 0x1234),
     some (.decAbsx 0x1234), some (.dcpAbsx 0x1234)] := by decide

theorem test_decode_rowE :
    [[0xE0, 0x12], [0xE1, 0x12], [0xE2, 0x12], [0xE3, 0x12], [0xE4, 0x12], [0xE5, 0x12], [0xE6, 0x12],
     [0xE7, 0x12], [0xE8], [0xE9, 0x12], [0xEA], [0xEB, 0x12], [0xEC, 0x34, 0x12], [0xED, 0x34, 0x12],
     [0xEE, 0x34, 0x12], [0xEF, 0x34, 0x12]].map decodesTo =
    [some (.cpxImm 0x12), some (.sbcIzx 0x12), some (.nopImmE2 0x12), some (.iscIzx 0x12), some (.cpxZp 0x12),
     some (.sbcZp 0x12), some (.incZp 0x12), some (.iscZp 0x12), some .inx, some (.sbcImm 0x12), some .nop,
     some (.usbcImm 0x12), some (.cpxAbs 0x1234), some (.sbcAbs 0x1234), some (.incAbs 0x1234),
     some (.iscAbs 0x1234)] := by decide

theorem test_decode_rowF :
    [[0xF0, 0x12], [0xF1, 0x12], [0xF2], [0xF3, 0x12], [0xF4, 0x12], [0xF5, 0x12], [0xF6, 0x12], [0xF7, 0x12],
     [0xF8], [0xF9, 0x34, 0x12], [0xFA], [0xFB, 0x34, 0x12], [0xFC, 0x34, 0x12], [0xFD, 0x34, 0x12],
     [0xFE, 0x34, 0x12], [0xFF, 0x34, 0x12]].map decodesTo =
    [some (.beq 0x12), some (.sbcIzy 0x12), some .jamF2, some (.iscIzy 0x12), some (.nopZpxF4 0x12),
     some (.sbcZpx 0x12), some (.incZpx 0x12), some (.iscZpx 0x12), some .sed, some (.sbcAbsy 0x1234),
     some .nopImpFA, some (.iscAbsy 0x1234), some (.nopAbsxFC 0x1234), some (.sbcAbsx 0x1234),
     some (.incAbsx 0x1234), some (.iscAbsx 0x1234)] := by decide

theorem test_decode_refuses_truncated : decode [0xAD, 0x34] = .error (.missingOperand 0xAD) := by decide

/-- The bits of a table word, the opcode lowest. -/
theorem test_decodeTableWord : decodeTableWord 24 0x1234AD = some (.ldaAbs 0x1234) := by decide

/-- The offset of a branch back by eight (R112, program P1 of 95_test_vectors.md). -/
theorem test_branchOffset : branchOffset 0x060A 0x0604 = some 0xF8 := by decide

/-! Single steps: the vectors of 95_test_vectors.md part 2, in its conventions. -/

/-- The start state of a vector: PC = 0600, P as given, all else as at reset, its 64 KB memory 00 but
the bytes named. -/
def start (p : Byte) (bytes : List (Nat × Byte)) : State :=
  { State.reset with
    p := p, pch := 0x06, bus := [], platform := .flat (bytes.foldl (fun m c => Memory.write m c.1 c.2) []) }

/-- What a step leaves, as `f` shows it. -/
def stepped {α : Type} (s : State) (f : State → α) : Option α :=
  match step s with
  | .next t => some (f t)
  | _ => none

theorem test_withFetchWord :
    stepped (State.reset.withFetchWord 16 0x80A9) (fun t => (t.a, t.pc)) = some (0x80, 0x0002) := by decide

/-- LDA #$00. -/
theorem test_lda :
    stepped (start 0x24 [(0x0600, 0xA9)])
      (fun t => (t.a, t.p, t.bus.length)) =
    some (0x00, 0x26, 2) := by decide

/-- LDX $10. -/
theorem test_ldx :
    stepped (start 0x24 [(0x0600, 0xA6), (0x0601, 0x10), (0x0010, 0x7F)])
      (fun t => (t.x, t.p, t.bus.length)) =
    some (0x7F, 0x24, 3) := by decide

/-- LDY $10,X. -/
theorem test_ldy :
    stepped ({ start 0x24 [(0x0600, 0xB4), (0x0601, 0x10), (0x0005, 0x01)] with x := 0xF5 })
      (fun t => (t.y, t.p, t.bus.length)) =
    some (0x01, 0x24, 4) := by decide

/-- LDA $FFFF,X. -/
theorem test_lda_2 :
    stepped ({ start 0x24 [(0x0600, 0xBD), (0x0601, 0xFF), (0x0602, 0xFF), (0x0000, 0xAB)] with x := 0x01 })
      (fun t => (t.a, t.p, t.bus.length)) =
    some (0xAB, 0xA4, 5) := by decide

/-- STA $0300,Y. -/
theorem test_sta :
    stepped ({ start 0x24 [(0x0600, 0x99), (0x0602, 0x03)] with a := 0x5A, y := 0x01 })
      (fun t => (t.peek 0x0301, t.p, t.bus.length)) =
    some (0x5A, 0x24, 5) := by decide

/-- STX $FF,Y. -/
theorem test_stx :
    stepped ({ start 0x24 [(0x0600, 0x96), (0x0601, 0xFF)] with x := 0x09, y := 0x02 })
      (fun t => (t.peek 0x0001, t.bus.length)) =
    some (0x09, 4) := by decide

/-- STY $1234. -/
theorem test_sty :
    stepped ({ start 0x24 [(0x0600, 0x8C), (0x0601, 0x34), (0x0602, 0x12)] with y := 0x3C })
      (fun t => (t.peek 0x1234, t.bus.length)) =
    some (0x3C, 4) := by decide

/-- TAX. -/
theorem test_tax :
    stepped ({ start 0x24 [(0x0600, 0xAA)] with a := 0x00 })
      (fun t => (t.x, t.p, t.bus.length)) =
    some (0x00, 0x26, 2) := by decide

/-- TAY. -/
theorem test_tay :
    stepped ({ start 0x24 [(0x0600, 0xA8)] with a := 0x80 })
      (fun t => (t.y, t.p, t.bus.length)) =
    some (0x80, 0xA4, 2) := by decide

/-- TXA. -/
theorem test_txa :
    stepped ({ start 0x24 [(0x0600, 0x8A)] with x := 0x7F })
      (fun t => (t.a, t.p, t.bus.length)) =
    some (0x7F, 0x24, 2) := by decide

/-- TYA. -/
theorem test_tya :
    stepped ({ start 0x24 [(0x0600, 0x98)] with y := 0x00 })
      (fun t => (t.a, t.p, t.bus.length)) =
    some (0x00, 0x26, 2) := by decide

/-- TSX. -/
theorem test_tsx :
    stepped ({ start 0x24 [(0x0600, 0xBA)] with sp := 0xFD })
      (fun t => (t.x, t.p, t.bus.length)) =
    some (0xFD, 0xA4, 2) := by decide

/-- TXS. -/
theorem test_txs :
    stepped ({ start 0x24 [(0x0600, 0x9A)] with x := 0x00 })
      (fun t => (t.sp, t.p, t.bus.length)) =
    some (0x00, 0x24, 2) := by decide

/-- AND #$0F. -/
theorem test_and :
    stepped ({ start 0x24 [(0x0600, 0x29), (0x0601, 0x0F)] with a := 0xF0 })
      (fun t => (t.a, t.p, t.bus.length)) =
    some (0x00, 0x26, 2) := by decide

/-- ORA #$80. -/
theorem test_ora :
    stepped ({ start 0x24 [(0x0600, 0x09), (0x0601, 0x80)] with a := 0x01 })
      (fun t => (t.a, t.p, t.bus.length)) =
    some (0x81, 0xA4, 2) := by decide

/-- EOR #$FF. -/
theorem test_eor :
    stepped ({ start 0x24 [(0x0600, 0x49), (0x0601, 0xFF)] with a := 0xFF })
      (fun t => (t.a, t.p, t.bus.length)) =
    some (0x00, 0x26, 2) := by decide

/-- BIT $10. -/
theorem test_bit :
    stepped ({ start 0x24 [(0x0600, 0x24), (0x0601, 0x10), (0x0010, 0xC0)] with a := 0x01 })
      (fun t => (t.p, t.bus.length)) =
    some (0xE6, 3) := by decide

/-- CMP #$05. -/
theorem test_cmp :
    stepped ({ start 0x24 [(0x0600, 0xC9), (0x0601, 0x05)] with a := 0x05 })
      (fun t => (t.p, t.bus.length)) =
    some (0x27, 2) := by decide

/-- CMP #$01. -/
theorem test_cmp_2 :
    stepped ({ start 0x24 [(0x0600, 0xC9), (0x0601, 0x01)] with a := 0x80 })
      (fun t => (t.p, t.bus.length)) =
    some (0x25, 2) := by decide

/-- CPX #$10. -/
theorem test_cpx :
    stepped ({ start 0x24 [(0x0600, 0xE0), (0x0601, 0x10)] with x := 0x20 })
      (fun t => (t.p, t.bus.length)) =
    some (0x25, 2) := by decide

/-- CPY $10. -/
theorem test_cpy :
    stepped ({ start 0x24 [(0x0600, 0xC4), (0x0601, 0x10)] with y := 0x00 })
      (fun t => (t.p, t.bus.length)) =
    some (0x27, 3) := by decide

/-- ASL A. -/
theorem test_asl :
    stepped ({ start 0x24 [(0x0600, 0x0A)] with a := 0x81 })
      (fun t => (t.a, t.p, t.bus.length)) =
    some (0x02, 0x25, 2) := by decide

/-- LSR A. -/
theorem test_lsr :
    stepped ({ start 0x24 [(0x0600, 0x4A)] with a := 0x01 })
      (fun t => (t.a, t.p, t.bus.length)) =
    some (0x00, 0x27, 2) := by decide

/-- ROL A. -/
theorem test_rol :
    stepped ({ start 0x24 [(0x0600, 0x2A)] with a := 0x80 })
      (fun t => (t.a, t.p, t.bus.length)) =
    some (0x00, 0x27, 2) := by decide

/-- ROR A. -/
theorem test_ror :
    stepped ({ start 0x24 [(0x0600, 0x6A)] with a := 0x01 })
      (fun t => (t.a, t.p, t.bus.length)) =
    some (0x00, 0x27, 2) := by decide

/-- ROR $1000,X. -/
theorem test_ror_2 :
    stepped ({ start 0x25 [(0x0600, 0x7E), (0x0602, 0x10), (0x1001, 0x02)] with x := 0x01 })
      (fun t => (t.peek 0x1001, t.p, t.bus.length)) =
    some (0x81, 0xA4, 7) := by decide

/-- INC $10. -/
theorem test_inc :
    stepped (start 0x24 [(0x0600, 0xE6), (0x0601, 0x10), (0x0010, 0xFF)])
      (fun t => (t.peek 0x0010, t.p, t.bus.length)) =
    some (0x00, 0x26, 5) := by decide

/-- INC $10FF,X. -/
theorem test_inc_2 :
    stepped ({ start 0x24 [(0x0600, 0xFE), (0x0601, 0xFF), (0x0602, 0x10), (0x1100, 0x41)] with x := 0x01 })
      (fun t => (t.peek 0x1100, t.p, t.bus.length)) =
    some (0x42, 0x24, 7) := by decide

/-- DEC $10,X. -/
theorem test_dec :
    stepped ({ start 0x24 [(0x0600, 0xD6), (0x0601, 0x10), (0x0011, 0x01)] with x := 0x01 })
      (fun t => (t.peek 0x0011, t.p, t.bus.length)) =
    some (0x00, 0x26, 6) := by decide

/-- INX. -/
theorem test_inx :
    stepped ({ start 0x24 [(0x0600, 0xE8)] with x := 0xFF })
      (fun t => (t.x, t.p, t.bus.length)) =
    some (0x00, 0x26, 2) := by decide

/-- INY. -/
theorem test_iny :
    stepped ({ start 0x24 [(0x0600, 0xC8)] with y := 0x7F })
      (fun t => (t.y, t.p, t.bus.length)) =
    some (0x80, 0xA4, 2) := by decide

/-- DEX. -/
theorem test_dex :
    stepped ({ start 0x24 [(0x0600, 0xCA)] with x := 0x00 })
      (fun t => (t.x, t.p, t.bus.length)) =
    some (0xFF, 0xA4, 2) := by decide

/-- DEY. -/
theorem test_dey :
    stepped ({ start 0x24 [(0x0600, 0x88)] with y := 0x01 })
      (fun t => (t.y, t.p, t.bus.length)) =
    some (0x00, 0x26, 2) := by decide

/-- JMP $9000. -/
theorem test_jmp :
    stepped (start 0x24 [(0x0600, 0x4C), (0x0602, 0x90)])
      (fun t => (t.pc, t.bus.length)) =
    some (0x9000, 3) := by decide

/-- JMP ($10FF). -/
theorem test_jmp_2 :
    stepped (start 0x24 [(0x0600, 0x6C), (0x0601, 0xFF), (0x0602, 0x10), (0x10FF, 0x34), (0x1000, 0x12), (0x1100, 0x56)])
      (fun t => (t.pc, t.bus.length)) =
    some (0x1234, 5) := by decide

/-- JSR $8000. -/
theorem test_jsr :
    stepped ({ start 0x24 [(0x0600, 0x20), (0x0602, 0x80)] with sp := 0xFD })
      (fun t => (t.pc, t.sp, t.peek 0x01FD, t.peek 0x01FC, t.bus.length)) =
    some (0x8000, 0xFB, 0x06, 0x02, 6) := by decide

/-- RTS. -/
theorem test_rts :
    stepped ({ start 0x24 [(0x0600, 0x60), (0x01FC, 0x02), (0x01FD, 0x06)] with sp := 0xFB })
      (fun t => (t.pc, t.sp, t.bus.length)) =
    some (0x0603, 0xFD, 6) := by decide

/-- RTS, stack wrap. -/
theorem test_rts_2 :
    stepped ({ start 0x24 [(0x0600, 0x60), (0x01FF, 0xFF), (0x0100, 0x12)] with sp := 0xFE })
      (fun t => (t.pc, t.sp, t.bus.length)) =
    some (0x1300, 0x00, 6) := by decide

/-- RTI. -/
theorem test_rti :
    stepped ({ start 0x24 [(0x0600, 0x40), (0x01FE, 0xC3), (0x01FF, 0x34), (0x0100, 0x12)] with sp := 0xFD })
      (fun t => (t.p, t.pc, t.sp, t.bus.length)) =
    some (0xE3, 0x1234, 0x00, 6) := by decide

/-- BRK. -/
theorem test_brk :
    stepped (start 0x24 [(0x0601, 0xAA), (0xFFFF, 0x90)])
      (fun t => (t.pc, t.sp, t.p, t.bus.length)) =
    some (0x9000, 0xFA, 0x24, 7) := by decide

/-- BRK, stack wrap. -/
theorem test_brk_2 :
    stepped ({ start 0xE3 [(0x0601, 0xAA), (0xFFFF, 0x90)] with sp := 0x01 })
      (fun t => (t.sp, t.p, t.peek 0x0101, t.peek 0x0100, t.peek 0x01FF, t.bus.length)) =
    some (0xFE, 0xE7, 0x06, 0x02, 0xF3, 7) := by decide

/-- PHA. -/
theorem test_pha :
    stepped ({ start 0x24 [(0x0600, 0x48)] with a := 0x42 })
      (fun t => (t.peek 0x01FD, t.sp, t.bus.length)) =
    some (0x42, 0xFC, 3) := by decide

/-- PHP. -/
theorem test_php :
    stepped (start 0x34 [(0x0600, 0x08)])
      (fun t => (t.peek 0x01FD, t.sp, t.p, t.bus.length)) =
    some (0x34, 0xFC, 0x34, 3) := by decide

/-- PLA. -/
theorem test_pla :
    stepped ({ start 0x24 [(0x0600, 0x68)] with sp := 0xFC })
      (fun t => (t.a, t.p, t.sp, t.bus.length)) =
    some (0x00, 0x26, 0xFD, 4) := by decide

/-- PLP. -/
theorem test_plp :
    stepped ({ start 0x24 [(0x0600, 0x28)] with sp := 0xFC })
      (fun t => (t.p, t.sp, t.bus.length)) =
    some (0x20, 0xFD, 4) := by decide

/-- PLP. -/
theorem test_plp_2 :
    stepped ({ start 0x24 [(0x0600, 0x28), (0x01FD, 0xCF)] with sp := 0xFC })
      (fun t => (t.p, t.bus.length)) =
    some (0xEF, 4) := by decide

/-- CLC. -/
theorem test_clc :
    stepped (start 0x35 [(0x0600, 0x18)])
      (fun t => (t.p, t.bus.length)) =
    some (0x34, 2) := by decide

/-- SEC. -/
theorem test_sec :
    stepped (start 0x34 [(0x0600, 0x38)])
      (fun t => (t.p, t.bus.length)) =
    some (0x35, 2) := by decide

/-- CLI. -/
theorem test_cli :
    stepped (start 0x34 [(0x0600, 0x58)])
      (fun t => (t.p, t.bus.length)) =
    some (0x30, 2) := by decide

/-- SEI. -/
theorem test_sei :
    stepped (start 0x30 [(0x0600, 0x78)])
      (fun t => (t.p, t.bus.length)) =
    some (0x34, 2) := by decide

/-- CLD. -/
theorem test_cld :
    stepped (start 0x3C [(0x0600, 0xD8)])
      (fun t => (t.p, t.bus.length)) =
    some (0x34, 2) := by decide

/-- SED. -/
theorem test_sed :
    stepped (start 0x34 [(0x0600, 0xF8)])
      (fun t => (t.p, t.bus.length)) =
    some (0x3C, 2) := by decide

/-- CLV. -/
theorem test_clv :
    stepped (start 0x74 [(0x0600, 0xB8)])
      (fun t => (t.p, t.bus.length)) =
    some (0x34, 2) := by decide

/-- NOP. -/
theorem test_nop :
    stepped (start 0xFF [(0x0600, 0xEA)])
      (fun t => (t.p, t.bus.length)) =
    some (0xFF, 2) := by decide

/-- SLO $10. -/
theorem test_slo :
    stepped ({ start 0x24 [(0x0600, 0x07), (0x0601, 0x10), (0x0010, 0x81)] with a := 0x01 })
      (fun t => (t.peek 0x0010, t.a, t.p, t.bus.length)) =
    some (0x02, 0x03, 0x25, 5) := by decide

/-- RLA $10. -/
theorem test_rla :
    stepped ({ start 0x25 [(0x0600, 0x27), (0x0601, 0x10), (0x0010, 0x40)] with a := 0xFF })
      (fun t => (t.peek 0x0010, t.a, t.p, t.bus.length)) =
    some (0x81, 0x81, 0xA4, 5) := by decide

/-- SRE $10. -/
theorem test_sre :
    stepped ({ start 0x24 [(0x0600, 0x47), (0x0601, 0x10), (0x0010, 0x03)] with a := 0xFF })
      (fun t => (t.peek 0x0010, t.a, t.p, t.bus.length)) =
    some (0x01, 0xFE, 0xA5, 5) := by decide

/-- RRA $10. -/
theorem test_rra :
    stepped ({ start 0x25 [(0x0600, 0x67), (0x0601, 0x10), (0x0010, 0x02)] with a := 0x10 })
      (fun t => (t.peek 0x0010, t.a, t.p, t.bus.length)) =
    some (0x81, 0x91, 0xA4, 5) := by decide

/-- RRA $10. -/
theorem test_rra_2 :
    stepped ({ start 0x24 [(0x0600, 0x67), (0x0601, 0x10), (0x0010, 0x03)] with a := 0x10 })
      (fun t => (t.peek 0x0010, t.a, t.p, t.bus.length)) =
    some (0x01, 0x12, 0x24, 5) := by decide

/-- SAX $10. -/
theorem test_sax :
    stepped ({ start 0x24 [(0x0600, 0x87), (0x0601, 0x10)] with a := 0xF0, x := 0x3C })
      (fun t => (t.peek 0x0010, t.p, t.bus.length)) =
    some (0x30, 0x24, 3) := by decide

/-- LAX $10. -/
theorem test_lax :
    stepped (start 0x24 [(0x0600, 0xA7), (0x0601, 0x10), (0x0010, 0x80)])
      (fun t => (t.a, t.x, t.p, t.bus.length)) =
    some (0x80, 0x80, 0xA4, 3) := by decide

/-- DCP $10. -/
theorem test_dcp :
    stepped ({ start 0x24 [(0x0600, 0xC7), (0x0601, 0x10), (0x0010, 0x06)] with a := 0x05 })
      (fun t => (t.peek 0x0010, t.p, t.bus.length)) =
    some (0x05, 0x27, 5) := by decide

/-- DCP $10. -/
theorem test_dcp_2 :
    stepped ({ start 0x24 [(0x0600, 0xC7), (0x0601, 0x10)] with a := 0x05 })
      (fun t => (t.peek 0x0010, t.p, t.bus.length)) =
    some (0xFF, 0x24, 5) := by decide

/-- ISC $10. -/
theorem test_isc :
    stepped ({ start 0x25 [(0x0600, 0xE7), (0x0601, 0x10), (0x0010, 0x04)] with a := 0x05 })
      (fun t => (t.peek 0x0010, t.a, t.p, t.bus.length)) =
    some (0x05, 0x00, 0x27, 5) := by decide

/-- SLO ($10),Y. -/
theorem test_slo_2 :
    stepped ({ start 0x24 [(0x0600, 0x13), (0x0601, 0x10), (0x0010, 0xFF), (0x0011, 0x10), (0x1100, 0x01)] with y := 0x01 })
      (fun t => (t.peek 0x1100, t.a, t.p, t.bus.length)) =
    some (0x02, 0x02, 0x24, 8) := by decide

/-- ANC #$80. -/
theorem test_anc :
    stepped ({ start 0x24 [(0x0600, 0x0B), (0x0601, 0x80)] with a := 0xFF })
      (fun t => (t.a, t.p, t.bus.length)) =
    some (0x80, 0xA5, 2) := by decide

/-- ALR #$03. -/
theorem test_alr :
    stepped ({ start 0x24 [(0x0600, 0x4B), (0x0601, 0x03)] with a := 0xFF })
      (fun t => (t.a, t.p, t.bus.length)) =
    some (0x01, 0x25, 2) := by decide

/-- ARR #$FF. -/
theorem test_arr :
    stepped ({ start 0x25 [(0x0600, 0x6B), (0x0601, 0xFF)] with a := 0xFF })
      (fun t => (t.a, t.p, t.bus.length)) =
    some (0xFF, 0xA5, 2) := by decide

/-- ARR #$FF, decimal. -/
theorem test_arr_2 :
    stepped ({ start 0x2C [(0x0600, 0x6B), (0x0601, 0xFF)] with a := 0x50 })
      (fun t => (t.a, t.p, t.bus.length)) =
    some (0x88, 0x6D, 2) := by decide

/-- SBX #$01. -/
theorem test_sbx :
    stepped ({ start 0x24 [(0x0600, 0xCB), (0x0601, 0x01)] with a := 0xFF, x := 0x0F })
      (fun t => (t.x, t.p, t.bus.length)) =
    some (0x0E, 0x25, 2) := by decide

/-- USBC #$01. -/
theorem test_usbc :
    stepped ({ start 0x25 [(0x0600, 0xEB), (0x0601, 0x01)] with a := 0x05 })
      (fun t => (t.a, t.p, t.bus.length)) =
    some (0x04, 0x25, 2) := by decide

/-- SHA $1000,Y. -/
theorem test_sha :
    stepped ({ start 0x24 [(0x0600, 0x9F), (0x0602, 0x10)] with a := 0xFF, x := 0xFF, y := 0x01 })
      (fun t => (t.peek 0x1001, t.bus.length)) =
    some (0x11, 5) := by decide

/-- SHX $10FF,Y, crossing. -/
theorem test_shx :
    stepped ({ start 0x24 [(0x0600, 0x9E), (0x0601, 0xFF), (0x0602, 0x10)] with x := 0x0F, y := 0x01 })
      (fun t => (t.peek 0x0100, t.bus.length)) =
    some (0x01, 5) := by decide

/-- SHY $20F0,X, crossing. -/
theorem test_shy :
    stepped ({ start 0x24 [(0x0600, 0x9C), (0x0601, 0xF0), (0x0602, 0x20)] with x := 0x20, y := 0x0F })
      (fun t => (t.peek 0x0110, t.bus.length)) =
    some (0x01, 5) := by decide

/-- TAS $1000,Y. -/
theorem test_tas :
    stepped ({ start 0x24 [(0x0600, 0x9B), (0x0602, 0x10)] with a := 0xF3, x := 0x3F, y := 0x00 })
      (fun t => (t.sp, t.peek 0x1000, t.bus.length)) =
    some (0x33, 0x11, 5) := by decide

/-- LAS $1000,Y. -/
theorem test_las :
    stepped ({ start 0x24 [(0x0600, 0xBB), (0x0602, 0x10), (0x1000, 0x3F)] with sp := 0xF0 })
      (fun t => (t.a, t.x, t.sp, t.p, t.bus.length)) =
    some (0x30, 0x30, 0x30, 0x24, 4) := by decide

/-- JAM (STP_MODE = NOP1). -/
theorem test_jam :
    stepped (start 0x24 [(0x0600, 0x02)])
      (fun t => (t.pc, t.bus.length)) =
    some (0x0601, 1) := by decide

/-- ADC of D0 and 90: V and C. -/
theorem test_adc_binary :
    stepped ({ start 0x24 [(0x0600, 0x69), (0x0601, 0x90)] with a := 0xD0 }) (fun t => (t.a, t.p)) =
    some (0x60, 0x65) := by decide

/-- ADC of 99 and 01 in decimal: Z is 0, because the binary sum is 9A (E12). -/
theorem test_adc_decimal :
    stepped ({ start 0x2C [(0x0600, 0x69), (0x0601, 0x01)] with a := 0x99 }) (fun t => (t.a, t.p)) =
    some (0x00, 0xAD) := by decide

/-- SBC of 01 from 80: V and C. -/
theorem test_sbc_binary :
    stepped ({ start 0x25 [(0x0600, 0xE9), (0x0601, 0x01)] with a := 0x80 }) (fun t => (t.a, t.p)) =
    some (0x7F, 0x65) := by decide

/-- SBC of 21 from 12 in decimal: N. -/
theorem test_sbc_decimal :
    stepped ({ start 0x2D [(0x0600, 0xE9), (0x0601, 0x21)] with a := 0x12 }) (fun t => (t.a, t.p)) =
    some (0x91, 0xAC) := by decide

/-- BPL: taken by +2 (3 ticks), not taken (2), taken by -128 across a page (4). -/
theorem test_bpl :
    [(0x24, 0x02), (0xA4, 0x02), (0x24, 0x80)].map (fun c =>
      stepped (start c.1 [(0x0600, 0x10), (0x0601, c.2)]) fun t => (t.pc, t.bus.length)) =
    [some (0x0604, 3), some (0x0602, 2), some (0x0582, 4)] := by decide

/-- BMI: taken by +2 (3 ticks), not taken (2), taken by -128 across a page (4). -/
theorem test_bmi :
    [(0xA4, 0x02), (0x24, 0x02), (0xA4, 0x80)].map (fun c =>
      stepped (start c.1 [(0x0600, 0x30), (0x0601, c.2)]) fun t => (t.pc, t.bus.length)) =
    [some (0x0604, 3), some (0x0602, 2), some (0x0582, 4)] := by decide

/-- BVC: taken by +2 (3 ticks), not taken (2), taken by -128 across a page (4). -/
theorem test_bvc :
    [(0x24, 0x02), (0x64, 0x02), (0x24, 0x80)].map (fun c =>
      stepped (start c.1 [(0x0600, 0x50), (0x0601, c.2)]) fun t => (t.pc, t.bus.length)) =
    [some (0x0604, 3), some (0x0602, 2), some (0x0582, 4)] := by decide

/-- BVS: taken by +2 (3 ticks), not taken (2), taken by -128 across a page (4). -/
theorem test_bvs :
    [(0x64, 0x02), (0x24, 0x02), (0x64, 0x80)].map (fun c =>
      stepped (start c.1 [(0x0600, 0x70), (0x0601, c.2)]) fun t => (t.pc, t.bus.length)) =
    [some (0x0604, 3), some (0x0602, 2), some (0x0582, 4)] := by decide

/-- BCC: taken by +2 (3 ticks), not taken (2), taken by -128 across a page (4). -/
theorem test_bcc :
    [(0x24, 0x02), (0x25, 0x02), (0x24, 0x80)].map (fun c =>
      stepped (start c.1 [(0x0600, 0x90), (0x0601, c.2)]) fun t => (t.pc, t.bus.length)) =
    [some (0x0604, 3), some (0x0602, 2), some (0x0582, 4)] := by decide

/-- BCS: taken by +2 (3 ticks), not taken (2), taken by -128 across a page (4). -/
theorem test_bcs :
    [(0x25, 0x02), (0x24, 0x02), (0x25, 0x80)].map (fun c =>
      stepped (start c.1 [(0x0600, 0xB0), (0x0601, c.2)]) fun t => (t.pc, t.bus.length)) =
    [some (0x0604, 3), some (0x0602, 2), some (0x0582, 4)] := by decide

/-- BNE: taken by +2 (3 ticks), not taken (2), taken by -128 across a page (4). -/
theorem test_bne :
    [(0x24, 0x02), (0x26, 0x02), (0x24, 0x80)].map (fun c =>
      stepped (start c.1 [(0x0600, 0xD0), (0x0601, c.2)]) fun t => (t.pc, t.bus.length)) =
    [some (0x0604, 3), some (0x0602, 2), some (0x0582, 4)] := by decide

/-- BEQ: taken by +2 (3 ticks), not taken (2), taken by -128 across a page (4). -/
theorem test_beq :
    [(0x26, 0x02), (0x24, 0x02), (0x26, 0x80)].map (fun c =>
      stepped (start c.1 [(0x0600, 0xF0), (0x0601, c.2)]) fun t => (t.pc, t.bus.length)) =
    [some (0x0604, 3), some (0x0602, 2), some (0x0582, 4)] := by decide

/-- A JSR whose last byte is pushed over reads what it pushed (R281): S = 02 with the instruction at 0100. -/
theorem test_jsr_over_itself :
    stepped ({ start 0x24 [(0x0100, 0x20), (0x0101, 0x34), (0x0102, 0x12)] with pch := 0x01, sp := 0x02 })
      (fun t => (t.pc, t.sp, t.peek 0x0102, t.peek 0x0101)) = some (0x0134, 0x00, 0x01, 0x02) := by decide

/-- ANE and LXA, for every magic constant, on the operand that clears what the constant could set (R342, R343). -/
theorem test_ane (magic : Byte) : aneValue magic 0x12 0xFF 0x00 = 0x00 := BitVec.and_zero
theorem test_lxa (magic : Byte) : lxaValue magic 0x12 0x00 = 0x00 := BitVec.and_zero

/-! Bus traces of the same vectors. -/

theorem test_trace_bne :
    stepped (start 0x24 [(0x0600, 0xD0), (0x0601, 0xF8)]) State.bus =
    some [.read 0x0600 0xD0, .read 0x0601 0xF8, .read 0x0602 0x00, .read 0x06FA 0x00] := by decide

theorem test_trace_jsr :
    stepped (start 0x24 [(0x0600, 0x20), (0x0602, 0x80)]) State.bus =
    some [.read 0x0600 0x20, .read 0x0601 0x00, .read 0x01FD 0x00, .write 0x01FD 0x06, .write 0x01FC 0x02,
      .read 0x0602 0x80] := by decide

theorem test_trace_shx :
    stepped ({ start 0x24 [(0x0600, 0x9E), (0x0601, 0xFF), (0x0602, 0x10)] with x := 0x0F, y := 0x01 }) State.bus =
    some [.read 0x0600 0x9E, .read 0x0601 0xFF, .read 0x0602 0x10, .read 0x1000 0x00, .write 0x0100 0x01] := by decide

/-! The interrupt vectors of 95_test_vectors.md section 2.9: the events before each Tick. -/

/-- What a run of Ticks with the events before each leaves, as `f` shows it. -/
def ticked {α : Type} (events : List (List HostEvent)) (s : State) (f : State → α) : Option α :=
  match ticksWithEvents events s with
  | .next t => some (f t)
  | _ => none

/-- `code` at 0600, with the vectors of the section and P as given. -/
def withVectors (p : Byte) (code : List (Nat × Byte)) : State := start p (code ++ [(0xFFFB, 0xA0), (0xFFFF, 0x90)])

/-- Two NOPs at 0600. -/
def twoNops : List (Nat × Byte) := [(0x0600, 0xEA), (0x0601, 0xEA)]

theorem test_V1_irq :
    ticked ([.call .setIrq] :: List.replicate 8 []) (withVectors 0x20 twoNops)
      (fun t => (t.pc, t.sp, t.p, t.peek 0x01FD, t.peek 0x01FC, t.peek 0x01FB)) =
    some (0x9000, 0xFA, 0x24, 0x06, 0x01, 0x20) := by decide

theorem test_V3_irq_masked :
    ticked ([.call .setIrq] :: List.replicate 3 []) (withVectors 0x24 twoNops) (fun t => (t.pc, t.sp)) =
    some (0x0602, 0xFD) := by decide

theorem test_V4_nmi_not_masked :
    ticked ([.call .setNmi] :: List.replicate 8 []) (withVectors 0x24 twoNops) (fun t => (t.pc, t.sp, t.p, t.peek 0x01FB)) =
    some (0xA000, 0xFA, 0x24, 0x24) := by decide

theorem test_V5_line_dropped_after_the_poll :
    ticked ([.call .setIrq] :: [.call .clearIrq] :: List.replicate 2 []) (withVectors 0x20 twoNops)
      (fun t => (t.opCode, t.opCodeCycle)) = some (.irqSequence, 2) := by decide

theorem test_V8_line_dropped_before_the_poll :
    ticked ([.call .setIrq] :: [] :: [.call .clearIrq] :: List.replicate 3 [])
      (withVectors 0x20 [(0x0600, 0xAD), (0x0602, 0x20), (0x0603, 0xEA), (0x0604, 0xEA)]) (fun t => (t.pc, t.sp, t.p)) =
    some (0x0604, 0xFD, 0x22) := by decide

theorem test_V9_nmi_wins :
    ticked ([.call .setIrq, .call .setNmi] :: List.replicate 8 []) (withVectors 0x20 twoNops)
      (fun t => (t.pc, t.irqSignal, t.flag .i)) = some (0xA000, true, true) := by decide

theorem test_V13_cli_then_sei :
    ticked ([.call .setIrq] :: List.replicate 8 []) (withVectors 0x24 [(0x0600, 0x58), (0x0601, 0x78), (0x0602, 0xEA)])
      (fun t => (t.pc, t.peek 0x01FD, t.peek 0x01FC, t.peek 0x01FB)) = some (0x9000, 0x06, 0x01, 0x20) := by decide

theorem test_V10_nmi_in_the_irq_sequence :
    ticked ([.call .setIrq] :: [] :: [] :: [] :: [.call .clearIrq, .call .setNmi] :: List.replicate 13 [])
      (withVectors 0x20 (twoNops ++ [(0x9000, 0xEA), (0x9001, 0xEA)]))
      (fun t => (t.pc, t.sp, t.peek 0x01FA, t.peek 0x01F9, t.peek 0x01F8)) =
    some (0xA000, 0xF7, 0x90, 0x01, 0x24) := by decide

/-- R395: BRK fetches 0xFFFE with an NMI pending. Its poll latches the edge (R136, log 23). -/
theorem test_nmi_in_brk_before_its_poll :
    ticked ([] :: [.call .setNmi] :: List.replicate 5 []) (withVectors 0x20 [])
      (fun t => (t.pc, t.sp, t.nmiSignal, t.nmiEdgeDetector)) = some (0x9000, 0xFA, true, false) := by decide

/-- R395: an NMI after BRK's poll is taken after the handler's first instruction, here a NOP. -/
theorem test_nmi_in_brk_after_its_poll :
    ticked (List.replicate 6 [] ++ [.call .setNmi] :: List.replicate 9 []) (withVectors 0x20 [(0x9000, 0xEA)])
      (fun t => (t.pc, t.peek 0x01FA, t.peek 0x01F9)) = some (0xA000, 0x90, 0x01) := by decide

/-! Construction (E9) and the reference platform (E5, E10). -/

theorem test_E9_construction :
    (let s := State.construct (.flat [(0xFFFD, 0x06)]) [] true
     (s.a, s.sp, s.p, s.pc, s.bus)) =
    (0x00, 0xFD, 0x34, 0x0600, [.read 0xFFFC 0x00, .read 0xFFFD 0x06]) := by decide

theorem test_reset_is_constructed : State.reset = State.construct (.flat []) [] true := by decide

/-- R423: a reset after STA $10 leaves the byte in memory, and what the environment has seen, and adds the two reads. -/
theorem test_reset_keeps_the_environment :
    stepped ({ start 0x24 [(0x0600, 0x85), (0x0601, 0x10), (0xFFFD, 0x90)] with a := 0x77 })
      (fun t => let u := t.reconstruct true; (u.a, u.pc, u.peek 0x0010, u.history)) =
    some (0x00, 0x9000, 0x77, [.read 0x0600 0x85, .read 0x0601 0x10, .write 0x0010 0x77, .read 0xFFFC 0x00,
      .read 0xFFFD 0x90]) := by decide

/-- A one-byte read-only region at 1000 that drives `v`. -/
def driver (v : Byte) : Component :=
  .region { base := 0x1000, size := 1, mirrorSize := none, readOnly := true, store := Memory.write [] 0 v }

theorem test_E5_bus_and :
    Platform.read [driver 0x0F, driver 0xF0] [] 0x1000 = 0x00 ∧ Platform.read [] [] 0x1000 = 0xFF ∧
      Platform.read [driver 0x5A, driver 0xFF] [] 0x1000 = 0x5A := by decide

/-- 2 KB mirrored over 8 KB. -/
def mirrored : Region := { base := 0, size := 0x2000, mirrorSize := some 0x800, readOnly := false, store := [] }

theorem test_E10_mirroring :
    Platform.read (Platform.write [.region mirrored] 0x1801 0x5A) [] 0x0001 = 0x5A := by decide

/-- CORE with read-only memory at 0600 to 06FF and nothing else: a store there is dropped (R92), and a read where no
component answers gives FF (R88). -/
def onRom (rom : Memory) : State :=
  { start 0x24 [] with
    platform := [.region { base := 0x0600, size := 0x100, mirrorSize := none, readOnly := true, store := rom }] }

theorem test_store_to_rom_is_dropped :
    stepped { onRom [(0, 0x8D), (2, 0x06)] with a := 0x5A } (fun t => (t.bus.getLast?, t.peek 0x0600)) =
    some (some (.write 0x0600 0x5A), 0x8D) := by decide

theorem test_read_of_the_empty_bus : stepped (onRom [(0, 0xA5), (1, 0x10)]) State.a = some 0xFF := by decide

/-- Beside that memory a device at 4000 (R70, R77): LDA $4000 reads what it answers after three accesses. -/
theorem test_device_answers_by_history :
    stepped { onRom [] with
      platform := [.region ⟨0x0600, 0x100, none, true, [(0, 0xAD), (2, 0x40)]⟩, .device ⟨1, 0x4000, 8⟩] } State.a =
    some (0xFF &&& Config.deviceOutput 1 [.read 0x0600 0xAD, .read 0x0601 0x00, .read 0x0602 0x40] 0x4000) := rfl

/-- A device that shares the memory stores between two cycles of INC $10: the unmodified byte written back is the one
latched before (R85, R156). -/
theorem test_device_store_inside_an_instruction :
    ticked [[], [], [], [.deviceStore 0x0010 0x77], []] (start 0x24 [(0x0600, 0xE6), (0x0601, 0x10), (0x0010, 0x01)])
      (fun t => (t.bus.drop 2, t.peek 0x0010)) =
    some ([.read 0x0010 0x01, .write 0x0010 0x01, .write 0x0010 0x02], 0x02) := by decide

/-! A launch (R433): INX and the end, a jump to itself at 0601. -/

def launch : Launch where
  e := 0x0601
  bytes := [(0x0600, 0xE8), (0x0601, 0x4C), (0x0602, 0x01), (0x0603, 0x06), (0xFFFD, 0x06)]

theorem test_launch_wf : launch.wf = true ∧ ({ launch with e := 0x0602 } : Launch).wf = false := by decide

/-- It ends before the jump is fetched: after the two Ticks of INX, and not within one. -/
theorem test_launch_ends :
    (launch.run true 8).map (fun r => (r.1, r.2.x, r.2.pc)) = some (2, 0x01, 0x0601) ∧ launch.run true 1 = none := by
  decide

/-! Witnesses: a state and operands that meet the hypotheses of each statement of Certificates/Slice0/Obligations.lean. -/

/-- The state of the witnesses, at reset with D clear. -/
def s0 : State := start 0x24 [(0x0600, 0xEA)]

/-- The same with D set. -/
def sD : State := start 0x2C [(0x0600, 0xEA)]

/-- The same with an IRQ latched and I clear, and with an NMI latched. -/
def sIrq : State := { start 0x20 [] with irqSignal := true }
def sNmi : State := { start 0x24 [] with nmiSignal := true }

/-- Before a BRK. -/
def sBrk : State := start 0x24 []

/-- Inside a BRK, before its second cycle. -/
def sMid : State := { start 0x24 [] with opCode := .op 0x00, opCodeCycle := 1 }

/-- Outside the table: JAM's entry has one cycle. -/
def sOut : State := { start 0x24 [] with opCode := .op 0x02, opCodeCycle := 1 }

theorem witness_EncodeUndoesDecode : decode [0xAD, 0x34, 0x12, 0xEA] = .ok (.ldaAbs 0x1234, [0xEA]) := by decide

theorem witness_DecodingIsTotal :
    ([0xAD, 0x34] : List Byte).length < opcodeLength 0xAD ∧ ([0xA9] : List Byte).length < opcodeLength 0xA9 := by decide

theorem witness_ResetMeetsTheInvariant :
    Platform.wf [driver 0x5A, .device ⟨1, 0x4000, 8⟩, .region ⟨0, 65536, none, false, [(0x0600, 0xEA), (0xFFFF, 0x90)]⟩] =
      true := by decide

theorem witness_StepRunsTheDecodedInstruction :
    (s0.opCodeCycle = 0 ∧ s0.interruptPending = false ∧
      (let first := s0.thenRead [] s0.pc
       let second := s0.thenRead first (s0.pc + 1)
       decode [s0.peek s0.pc, s0.answer first (s0.pc + 1), s0.answer second (s0.pc + 2)] = .ok (.nop, [0x00, 0x00]))) ∧
    (sIrq.opCodeCycle = 0 ∧ sIrq.interruptPending = true) ∧ sMid.opCodeCycle ≠ 0 := by decide

theorem witness_EveryStepKeepsTheInvariant :
    (s0.Inv ∧ stepped s0 State.pc = some 0x0601) ∧ (sIrq.Inv ∧ stepped sIrq State.pc = some 0x0000) ∧
      (sMid.Inv ∧ stepped sMid State.pc = some 0x0000) := by decide

theorem witness_EveryTickKeepsTheInvariant :
    (s0.Inv ∧ ticked [[]] s0 State.opCodeCycle = some 1) ∧ (sMid.Inv ∧ ticked [[]] sMid State.opCodeCycle = some 2) := by
  decide

theorem witness_NoStepStops : s0.inTable ∧ sMid.inTable ∧ sNmi.inTable := by decide

theorem witness_TickFaultsOnlyOutsideTheTable :
    s0.inTable ∧ sMid.inTable ∧ ¬ sOut.inTable := by decide

theorem witness_AStepIsItsTicks :
    (s0.opCodeCycle = 0 ∧ s0.interruptPending = false) ∧ (sNmi.opCodeCycle = 0 ∧ sNmi.interruptPending = true) := by
  decide

theorem witness_EveryTickMakesOneBusAccess :
    ticked [[]] s0 State.bus = some [.read 0x0600 0xEA] ∧ ticked [[]] sMid State.bus = some [.read 0x0600 0x00] := by
  decide

/-- The second clause in an entry to an interrupt: the cycle that dispatches, and one inside. -/
theorem witness_EveryInstructionPollsInItsSecondToLastCycle :
    (s0.opCodeCycle = 0 ∧ s0.interruptPending = false ∧ 1 < actualLength s0.fetchInstr s0 ∧
      (match ticks 1 s0 with
        | .next u => ticked [[.call .setIrq]] u State.opCodeCycle
        | _ => none) = some 0) ∧
      (sBrk.opCodeCycle = 0 ∧ sBrk.interruptPending = false ∧ 5 < actualLength sBrk.fetchInstr sBrk ∧
        sBrk.fetchInstr = .brk) ∧
      ticked [[]] sIrq State.opCode = some .irqSequence ∧
      ticked [[], []] sNmi (fun t => (t.opCode, t.opCodeCycle)) = some (.nmiSequence, 2) := by decide

theorem witness_FirstCycleDispatchesOrFetches :
    (sNmi.opCodeCycle = 0 ∧ sNmi.nmiSignal = true) ∧
      (sIrq.opCodeCycle = 0 ∧ sIrq.nmiSignal = false ∧ (sIrq.irqSignal && !sIrq.flag .i) = true) ∧
      (s0.opCodeCycle = 0 ∧ s0.nmiSignal = false ∧ (s0.irqSignal && !s0.flag .i) = false) := by decide

theorem witness_InterruptEntry :
    (sIrq.opCodeCycle = 0 ∧ (sIrq.nmiSignal || (sIrq.irqSignal && !sIrq.flag .i)) = true) ∧
      (sNmi.opCodeCycle = 0 ∧ (sNmi.nmiSignal || (sNmi.irqSignal && !sNmi.flag .i)) = true) := by decide

theorem witness_RtiUndoesInterruptEntry :
    sIrq.platform.isRam ∧ sIrq.opCodeCycle = 0 ∧ sIrq.interruptPending = true ∧ sIrq.flag .u = true := by decide

theorem witness_RtsReturnsPastItsJsr : s0.platform.isRam := by decide

theorem witness_TheInterruptFlagIsReadAtDispatch : (.cli, false) ∈ interruptFlagForms s0 := by decide

theorem witness_Loads :
    (⟨.ldaAbsx 0x12FF, 0xBD, 3, 4⟩, .mem (.absIndexed .x 0x12FF)) ∈ ldaForms 0xFF 0x12FF ∧
      (⟨.ldxImm 0x80, 0xA2, 2, 2⟩, .imm 0x80) ∈ ldxForms 0x80 0x1234 ∧
      (⟨.ldyZpx 0xFF, 0xB4, 2, 4⟩, .mem (.zpIndexed .x 0xFF)) ∈ ldyForms 0xFF 0x1234 := by decide

theorem witness_Stores :
    (⟨.staIzy 0xFF, 0x91, 2, 6⟩, .izy 0xFF) ∈ staForms 0xFF 0x1234 ∧
      (⟨.stxAbs 0xFFFF, 0x8E, 3, 4⟩, .abs 0xFFFF) ∈ stxForms 0xFF 0xFFFF ∧
      (⟨.styZpx 0xFF, 0x94, 2, 4⟩, .zpIndexed .x 0xFF) ∈ styForms 0xFF 0x1234 ∧
      (⟨.saxZpy 0x10, 0x97, 2, 4⟩, .zpIndexed .y 0x10) ∈ saxForms 0x10 0x1234 := by decide

theorem witness_Transfers : (⟨.tsx, 0xBA, 1, 2⟩, 0xFD, .x) ∈ transferForms s0 := by decide

theorem witness_AdcBinary :
    ((s0.decimalEnabled && s0.flag .d) = false ∧ (⟨.adcImm 0x80, 0x69, 2, 2⟩, .imm 0x80) ∈ adcForms 0x80 0x1234) ∧
      (({ sD with decimalEnabled := false }.decimalEnabled && sD.flag .d) = false) := by decide

theorem witness_AdcDecimal :
    (sD.decimalEnabled && sD.flag .d) = true ∧ (⟨.adcImm 0x99, 0x69, 2, 2⟩, .imm 0x99) ∈ adcForms 0x99 0x1234 := by decide

theorem witness_SbcBinary :
    (s0.decimalEnabled && s0.flag .d) = false ∧ (⟨.usbcImm 0x01, 0xEB, 2, 2⟩, .imm 0x01) ∈ sbcForms 0x01 0x1234 := by
  decide

theorem witness_SbcDecimal :
    (sD.decimalEnabled && sD.flag .d) = true ∧
      (⟨.sbcAbs 0x1234, 0xED, 3, 4⟩, .mem (.abs 0x1234)) ∈ sbcForms 0x01 0x1234 := by decide

theorem witness_Logic :
    (⟨.andImm 0x0F, 0x29, 2, 2⟩, .imm 0x0F) ∈ andForms 0x0F 0x1234 ∧
      (⟨.oraZp 0x0F, 0x05, 2, 3⟩, .mem (.zp 0x0F)) ∈ oraForms 0x0F 0x1234 ∧
      (⟨.eorIzy 0x0F, 0x51, 2, 5⟩, .mem (.izy 0x0F)) ∈ eorForms 0x0F 0x1234 := by decide

theorem witness_Bit : (⟨.bitAbs 0x0600, 0x2C, 3, 4⟩, .mem (.abs 0x0600)) ∈ bitForms 0x0F 0x0600 := by decide

theorem witness_Compares :
    (⟨.cmpImm 0x05, 0xC9, 2, 2⟩, .imm 0x05) ∈ cmpForms 0x05 0x1234 ∧
      (⟨.cpxImm 0x05, 0xE0, 2, 2⟩, .imm 0x05) ∈ cpxForms 0x05 0x1234 ∧
      (⟨.cpyZp 0x05, 0xC4, 2, 3⟩, .mem (.zp 0x05)) ∈ cpyForms 0x05 0x1234 := by decide

theorem witness_AccumulatorShifts : (⟨.rolAcc, 0x2A, 1, 2⟩, .rol) ∈ accumulatorForms := by decide

theorem witness_MemoryShifts :
    (⟨.aslZp 0x10, 0x06, 2, 5⟩, .zp 0x10) ∈ shiftForms .asl 0x10 0x1234 ∧
      (⟨.lsrAbs 0x1234, 0x4E, 3, 6⟩, .abs 0x1234) ∈ shiftForms .lsr 0x10 0x1234 ∧
      (⟨.rolAbsx 0xFFFF, 0x3E, 3, 7⟩, .absIndexed .x 0xFFFF) ∈ shiftForms .rol 0x10 0xFFFF ∧
      (⟨.rorZpx 0xFF, 0x76, 2, 6⟩, .zpIndexed .x 0xFF) ∈ shiftForms .ror 0xFF 0x1234 := by decide

theorem witness_IncDec :
    (⟨.incAbsx 0x10FF, 0xFE, 3, 7⟩, .absIndexed .x 0x10FF) ∈ incForms 0x10 0x10FF ∧
      (⟨.decZp 0x10, 0xC6, 2, 5⟩, .zp 0x10) ∈ decForms 0x10 0x1234 := by decide

theorem witness_RegisterCounts : (⟨.dex, 0xCA, 1, 2⟩, .x, 0xFF) ∈ countForms s0 := by decide

/-- Not taken, taken on the page, and taken across it. -/
theorem witness_Branches :
    ((⟨.bne 0x02, 0xD0, 2, 3⟩, .z, false) ∈ branchForms 0x02 s0 ∧ s0.flag .z = false) ∧
      ((⟨.beq 0x02, 0xF0, 2, 2⟩, .z, true) ∈ branchForms 0x02 s0 ∧ s0.flag .z ≠ true) ∧
      (⟨.bpl 0x80, 0x10, 2, 4⟩, .n, false) ∈ branchForms 0x80 s0 := by decide

/-- JSR $1234 at 0600, and one that pushes over its own last byte. -/
theorem witness_Jsr :
    (let s := start 0x24 [(0x0600, 0x20), (0x0601, 0x34), (0x0602, 0x12)]
     s.platform.isRam ∧ s.peek (s.pc + 2) = hi8 0x1234 ∧ s.pc + 2 ≠ wordOf 0x01 s.sp ∧ s.pc + 2 ≠ wordOf 0x01 (s.sp - 1)) ∧
    (let s := { start 0x24 [] with pch := 0x01, sp := 0x02 }
     s.platform.isRam ∧ s.pc + 2 = wordOf 0x01 s.sp) := by decide

theorem witness_Pushes : (⟨.php, 0x08, 1, 3⟩, 0x34) ∈ pushForms s0 := by decide

theorem witness_FlagInstructions : (⟨.cld, 0xD8, 1, 2⟩, .d, false) ∈ flagForms := by decide

theorem witness_Nops :
    ⟨.nopImp1A, 0x1A, 1, 2⟩ ∈ nopForms ∧
      (⟨.nopAbsx1C 0x10FF, 0x1C, 3, 4⟩, .mem (.absIndexed .x 0x10FF)) ∈ nopReadForms 0x10 0x10FF ∧
      (⟨.nopImm80 0x10, 0x80, 2, 2⟩, .imm 0x10) ∈ nopReadForms 0x10 0x10FF := by decide

theorem witness_Jam : ⟨.jam02, 0x02, 1, 1⟩ ∈ jamForms := by decide

theorem witness_SloRlaSre :
    (⟨.sloIzy 0x10, 0x13, 2, 8⟩, .izy 0x10) ∈ sloForms 0x10 0x1234 ∧
      (⟨.rlaZp 0x10, 0x27, 2, 5⟩, .zp 0x10) ∈ rlaForms 0x10 0x1234 ∧
      (⟨.sreAbs 0xFFFF, 0x4F, 3, 6⟩, .abs 0xFFFF) ∈ sreForms 0x10 0xFFFF := by decide

/-- In binary and in decimal. -/
theorem witness_Rra :
    (⟨.rraZp 0x10, 0x67, 2, 5⟩, .zp 0x10) ∈ rraForms 0x10 0x1234 ∧ (s0.decimalEnabled && s0.flag .d) = false ∧
      (sD.decimalEnabled && sD.flag .d) = true := by decide

/-- In binary and in decimal. -/
theorem witness_Isc :
    (⟨.iscZp 0x10, 0xE7, 2, 5⟩, .zp 0x10) ∈ iscForms 0x10 0x1234 ∧ (s0.decimalEnabled && s0.flag .d) = false ∧
      (sD.decimalEnabled && sD.flag .d) = true := by decide

theorem witness_Dcp : (⟨.dcpAbsy 0xFFFF, 0xDB, 3, 7⟩, .absIndexed .y 0xFFFF) ∈ dcpForms 0x10 0xFFFF := by decide

theorem witness_LaxLas :
    (⟨.laxAbsy 0x10FF, 0xBF, 3, 4⟩, .mem (.absIndexed .y 0x10FF)) ∈ laxForms 0x10 0x10FF ∧
      (⟨.lasAbsy 0x0600, 0xBB, 3, 4⟩, .mem (.absIndexed .y 0x0600)) ∈ lasForms 0x10 0x0600 := by decide

theorem witness_Anc : ⟨.ancImm2B 0x80, 0x2B, 2, 2⟩ ∈ ancForms 0x80 := by decide

/-- Both rules of ARR. -/
theorem witness_Arr :
    (sD.decimalEnabled && sD.flag .d) = true ∧ (s0.decimalEnabled && s0.flag .d) = false := by decide

/-- With a page crossed and without. -/
theorem witness_ShStores :
    (let s := { s0 with x := 0x0F, y := 0x01 }
     (⟨.shxAbsy 0x12FF, 0x9E, 3, 5⟩, .absIndexed .y 0x12FF, 0x0F) ∈ shForms 0x10 0x12FF s ∧
      (Mode.absIndexed .y 0x12FF).indexed s (.shxAbsy 0x12FF) = some (0x12FF, 0x01) ∧ carries 0x12FF 0x01) ∧
    ((⟨.shaIzy 0x10, 0x93, 2, 6⟩, .izy 0x10, 0x00) ∈ shForms 0x10 0x1234 s0 ∧
      (Mode.izy 0x10).indexed s0 (.shaIzy 0x10) = some (0x0000, 0x00) ∧ ¬ carries 0x0000 0x00) := by decide

theorem witness_ImpliedAndImmediateTraces : Instr.nop ∈ impliedInstrs := by decide

/-- One instruction of each list of the traces. -/
theorem witness_ListsAreInhabited :
    (immediateInstrs.isEmpty || zpReads.isEmpty || zpWrites.isEmpty || zpRmws.isEmpty || zpIndexedReads.isEmpty ||
      zpIndexedWrites.isEmpty || zpIndexedRmws.isEmpty || absReads.isEmpty || absWrites.isEmpty || absRmws.isEmpty ||
      izxReads.isEmpty || izxWrites.isEmpty || izxRmws.isEmpty || absIndexedReads.isEmpty ||
      absIndexedWrites.isEmpty || absIndexedRmws.isEmpty || izyReads.isEmpty || izyWrites.isEmpty ||
      izyRmws.isEmpty || absIndexedHighStores.isEmpty) = false := by decide

/-- The read at the unfixed address is the last of an indexed read, or not (R148). -/
theorem witness_IndexedTraces :
    (Index.x, Instr.ldaAbsx) ∈ absIndexedReads ∧ (Index.y, Instr.sloAbsy) ∈ absIndexedRmws ∧
      (Index.y, Instr.tasAbsy) ∈ absIndexedHighStores ∧ carries 0x10FF (Index.x.value { s0 with x := 0x01 }) ∧
      ¬ carries 0x1000 (Index.x.value { s0 with x := 0x01 }) := by
  refine ⟨?_, ?_, ?_, by decide, by decide⟩ <;> simp [absIndexedReads, absIndexedRmws, absIndexedHighStores]

/-- Nothing there, a read-only region, a writable mirrored one with two names of one byte, and a device. -/
theorem witness_Platform :
    (∀ c ∈ [driver 0x5A], c.covers 0x1001 = false) ∧ (driver 0x5A).covers 0x1000 = true ∧
      (mirrored.readOnly = false ∧ Component.covers (.region mirrored) 0x1801 = true ∧
        Component.covers (.region mirrored) 0x0001 = true ∧ mirrored.index 0x0001 = mirrored.index 0x1801) ∧
      Component.covers (.device ⟨1, 0x4000, 8⟩) 0x4007 = true := by decide

end Sys2Proof.Tests
end

section
/-! The family of 10_state.md: construction, and the invariant `State.Inv` at construction and under every Tick, event and step. -/

namespace Sys2Proof.Machine

/-! Construction (R420, R421). -/

/-- Construction is `State.reset` with the environment, its past and DECIMAL_ENABLED as given, and the vector as the
environment answers it. -/
theorem State.construct_eq (p : Platform) (h : List BusAccess) (d : Bool) :
    let low := p.read h 0xFFFC
    let high := p.read (h ++ [.read 0xFFFC low]) 0xFFFD
    State.construct p h d =
      { State.reset with
        pcl := low, pch := high, decimalEnabled := d, platform := p, past := h
        bus := [.read 0xFFFC low, .read 0xFFFD high] } := by
  simp only [State.construct, State.readCycle, State.logged, State.peek, State.history, List.append_nil, List.nil_append]
  rfl

/-- A reset adds its two vector reads to what the environment has seen, and nothing else (R423). -/
theorem State.reconstruct_history (s : State) (d : Bool) :
    (s.reconstruct d).history =
      s.history ++ [.read 0xFFFC (lo8 (s.reconstruct d).pc), .read 0xFFFD (hi8 (s.reconstruct d).pc)] := by
  simp only [State.reconstruct, State.construct_eq, State.pc, lo8_wordOf, hi8_wordOf]
  rfl

/-- `State.reset` is the construction on one empty 64 KB memory, which answers zero to both vector reads (logs 1, 2, 5). -/
theorem State.reset_eq_construct : State.reset = State.construct (.flat []) [] true := by
  simp only [State.construct_eq, Platform.read_flat, Memory.read]
  rfl

/-- Construction meets the invariant where the storage it is given is canonical (R39, R52, R60). -/
theorem State.construct_inv (p : Platform) (h : List BusAccess) (d : Bool) (hp : p.wf = true) :
    (State.construct p h d).Inv := by
  rw [State.construct_eq]
  have hu : State.reset.flag .u = true := by decide
  exact ⟨Nat.succ_pos _, hu, hp⟩

/-! One Tick (R131). -/

@[simp] theorem Entry.advance_flag (e : Entry) (k : Nat) (s : State) (ended : Bool) (g : Flag) :
    (e.advance k s ended).flag g = s.flag g := by
  rw [State.flag, Entry.advance_p]; rfl

/-- c0 leaves P and the environment's storage as they are (R133). -/
theorem State.firstCycle_keeps_p_platform (s : State) : s.firstCycle.p = s.p ∧ s.firstCycle.platform = s.platform := by
  simp only [State.firstCycle, State.dispatchInterrupt]
  split
  · split <;> exact ⟨rfl, rfl⟩
  · exact ⟨rfl, rfl⟩

/-- After a cycle `k` of OpCode's entry, OpCodeCycle is back at 0 or at the next cycle, which the entry has. -/
theorem State.advance_inv {s : State} {k : Nat} (hk : k < (microOps s.opCode).length) (hu : s.flag .u = true)
    (hw : s.platform.wf = true) (ended : Bool) : ((microOps s.opCode).advance k s ended).Inv := by
  refine ⟨?_, by simpa using hu, by simpa using hw⟩
  simp only [State.inTable, Entry.advance_opCode, Entry.advance_opCodeCycle]
  split
  case isTrue => omega
  case isFalse hlast =>
    have hne : k + 1 ≠ (microOps s.opCode).length := fun e => hlast (by simp [e])
    omega

/-- A Tick keeps the invariant: c0 changes neither P nor storage, and every other action acts as `microOps_good` says. -/
theorem tick_inv {s t : State} (h : s.Inv) (ht : tick s = .next t) : t.Inv := by
  obtain ⟨hin, hu, hw⟩ := h
  by_cases h0 : s.opCodeCycle = 0
  · obtain ⟨hp, hpl⟩ := s.firstCycle_keeps_p_platform
    simp only [tick, h0, if_true, Host.Outcome.next.injEq] at ht
    subst ht
    exact State.advance_inv (Nat.succ_pos _) (by rw [State.flag, hp]; exact hu) (by rw [hpl]; exact hw) false
  · simp only [tick, h0, if_false] at ht
    split at ht
    case h_1 => cases ht
    case h_2 action hget =>
      have acts := microOps_good s.opCode action (List.mem_of_getElem? hget) s
      simp only [Host.Outcome.next.injEq] at ht
      subst ht
      rw [State.inTable, ← acts.opCode] at hin
      rw [← acts.opCode]
      exact State.advance_inv hin (acts.flagU hu) (acts.wf hw) _

/-- A call of the host leaves OpCodeCycle, P and storage alone (R394); a store by a device keeps storage canonical (R85). -/
theorem State.event_inv {s : State} (h : s.Inv) (e : HostEvent) : (s.event e).Inv := by
  cases e with
  | call c => cases c <;> exact h
  | deviceStore a v =>
    obtain ⟨hin, hu, hw⟩ := h
    exact ⟨hin, hu, s.platform.wf_write a v hw⟩

/-! Runs of Ticks, and the step (R135). -/

theorem ticks_inv (n : Nat) {s t : State} (h : s.Inv) (ht : ticks n s = .next t) : t.Inv := by
  induction n generalizing s with
  | zero => cases ht; exact h
  | succ n ih =>
    simp only [ticks] at ht
    split at ht
    case h_1 s' hs' => exact ih (tick_inv h hs') ht
    all_goals cases ht

theorem finish_inv (n : Nat) {s t : State} (h : s.Inv) (ht : finish n s = .next t) : t.Inv := by
  induction n generalizing s with
  | zero => cases ht; exact h
  | succ n ih =>
    simp only [finish] at ht
    split at ht
    case h_1 s' hs' =>
      have h' := tick_inv h hs'
      split at ht
      · cases ht; exact h'
      · exact ih h' ht
    all_goals cases ht

/-- A step keeps the invariant, for it answers what Ticks answer: from a boundary a whole entry, else the rest of one. -/
theorem step_inv {s t : State} (h : s.Inv) (ht : step s = .next t) : t.Inv := by
  by_cases h0 : s.opCodeCycle = 0
  · have hrun := (ticks_boundary h0).1
    rw [← step_boundary h0, ht] at hrun
    exact ticks_inv _ h hrun
  · simp only [step, h0, if_false] at ht
    exact finish_inv _ h ht

/-! The obligations. -/

/-- Settles O9: a step is a run of Ticks, each of which keeps the invariant. -/
theorem everyStepKeepsTheInvariant : Obligations.EveryStepKeepsTheInvariant :=
  fun _ _ => step_inv

/-- Settles O10, from what c0 and every action of the 258 entries leave alone, and from the canonical form that every write
keeps. -/
theorem everyTickKeepsTheInvariant : Obligations.EveryTickKeepsTheInvariant :=
  ⟨fun _ _ => tick_inv, fun _ e h => State.event_inv h e⟩

/-- Settles O5, from the constructed state written out field by field. -/
theorem constructionLeavesTheResetValues : Obligations.ConstructionLeavesTheResetValues := by
  refine ⟨fun p h d => ?_, fun s d => ⟨?_, s.reconstruct_history d⟩, State.reset_eq_construct⟩
  · simp [State.construct_eq, State.reset, State.pc]
  · rw [State.reconstruct, State.construct_eq]

/-- Settles O6: State.reset is a construction on canonical storage. -/
theorem resetMeetsTheInvariant : Obligations.ResetMeetsTheInvariant := by
  refine ⟨?_, State.construct_inv⟩
  rw [State.reset_eq_construct]
  exact State.construct_inv _ _ _ rfl

end Sys2Proof.Machine
end

section
/-! The family of 20_memory.md: the bus of an environment and its components, and the one access of every Tick. -/

namespace Sys2Proof.Machine

/-! The bus (R88 to R93). -/

/-- An address that no component covers reads 0xFF (R90). -/
theorem Platform.read_uncovered (p : Platform) (h : List BusAccess) (a : Addr) (hp : ∀ c ∈ p, c.covers a = false) :
    p.read h a = 0xFF := by
  induction p with
  | nil => rfl
  | cons c p ih =>
    obtain ⟨hc, hp⟩ := List.forall_mem_cons.1 hp
    simpa [Platform.read, hc] using ih hp

/-- A write there reaches nothing (R90). -/
theorem Platform.write_uncovered (p : Platform) (a : Addr) (v : Byte) (hp : ∀ c ∈ p, c.covers a = false) :
    p.write a v = p := by
  induction p with
  | nil => rfl
  | cons c p ih =>
    obtain ⟨hc, hp⟩ := List.forall_mem_cons.1 hp
    simpa [Platform.write, hc] using ih hp

/-- A write to a bus with one component. -/
theorem Platform.write_one (c : Component) (a : Addr) (v : Byte) (hc : c.covers a = true) :
    Platform.write [c] a v = [c.write a v] := by
  simp [Platform.write, hc]

/-! One region (R91, R92). -/

/-- The storage index with a mirror size: an offset wraps at it (R91). -/
theorem Region.index_mirrored {r : Region} {m : Nat} (hm : r.mirrorSize = some m) (a : Addr) :
    r.index a = (a.toNat - r.base) % m := by
  rw [Region.index, hm]

theorem Region.index_unmirrored {r : Region} (hm : r.mirrorSize = none) (a : Addr) : r.index a = a.toNat - r.base := by
  rw [Region.index, hm]

section region
variable {r : Region} {a q : Addr} (v : Byte)

/-- A read-only region drops a write (R92). -/
theorem Platform.write_readOnly (hr : r.readOnly = true) (ha : Component.covers (.region r) a = true) :
    Platform.write [.region r] a v = [.region r] := by
  rw [Platform.write_one _ a v ha, Component.write, if_pos hr]

/-- A read-write region reads a written byte back at every address with the storage index of the write, and its old
bytes at the others (R91). -/
theorem Platform.read_write_region (hr : r.readOnly = false) (ha : Component.covers (.region r) a = true)
    (hq : Component.covers (.region r) q = true) (h h' : List BusAccess) :
    Platform.read (Platform.write [.region r] a v) h' q =
      if r.index q = r.index a then v else Platform.read [.region r] h q := by
  have hw : Platform.write [.region r] a v = [.region (r.put a v)] := by
    rw [Platform.write_one _ a v ha, Component.write, if_neg (by simp [hr])]
  calc Platform.read (Platform.write [.region r] a v) h' q
      = Platform.read [.region (r.put a v)] h' q := by rw [hw]
    _ = (r.store.write (r.index a) v).read (r.index q) := Platform.read_one (.region (r.put a v)) h' q hq
    _ = if r.index a = r.index q then v else r.store.read (r.index q) := Memory.read_write ..
    _ = if r.index q = r.index a then v else Platform.read [.region r] h q := by
      rw [Platform.read_one _ h q hq, Component.output]
      simp only [eq_comm]

end region

/-! One Tick (R76, R131). -/

/-- What a Tick that answers a next state can be: c0, or an action of OpCode's entry; then the advance. -/
theorem tick_cases {s t : State} (ht : tick s = .next t) :
    (s.opCodeCycle = 0 ∧ t = (microOps s.firstCycle.opCode).advance 0 s.firstCycle false) ∨
      (s.opCodeCycle ≠ 0 ∧ ∃ m ∈ (microOps s.opCode).cycles,
        t = (microOps s.opCode).advance s.opCodeCycle (m s).1 (m s).2) := by
  by_cases h0 : s.opCodeCycle = 0
  · simp only [tick, h0, if_true, Host.Outcome.next.injEq] at ht
    exact .inl ⟨h0, ht.symm⟩
  · simp only [tick, h0, if_false] at ht
    split at ht
    case h_1 => cases ht
    case h_2 m hget => exact .inr ⟨h0, m, List.mem_of_getElem? hget, (Host.Outcome.next.inj ht).symm⟩

/-- At c0 what the log held joins the past (R133). -/
theorem State.firstCycle_past (s : State) : s.firstCycle.past = s.history := by
  simp only [State.firstCycle, State.dispatchInterrupt]
  split
  · split <;> rfl
  · rfl

/-- The one access as an entry of the log. -/
theorem OneAccess.logs {s t : State} (h : OneAccess s t) :
    ∃ e : BusAccess, t.bus = s.bus ++ [e] ∧
      ((∃ a, e = .read a (s.peek a) ∧ t.platform = s.platform) ∨
        ∃ a v, e = .write a v ∧ t.platform = s.platform.write a v) := by
  obtain ⟨a, hb, hp⟩ | ⟨a, v, hb, hp⟩ := h
  · exact ⟨_, hb, .inl ⟨a, rfl, hp⟩⟩
  · exact ⟨_, hb, .inr ⟨a, v, rfl, hp⟩⟩

/-! The obligations. -/

/-- Settles O14: c0 makes its read at PC, every other action makes one access as `microOps_good` says, and the advance
after them leaves the environment and its history alone. -/
theorem everyTickMakesOneBusAccess : Obligations.EveryTickMakesOneBusAccess := by
  intro s t ht
  obtain ⟨h0, rfl⟩ | ⟨h0, m, hm, rfl⟩ := tick_cases ht
  · simp only [Entry.advance_past, Entry.advance_bus, Entry.advance_platform, if_pos h0]
    exact ⟨s.firstCycle_past, _, firstCycle_bus s, .inl ⟨s.pc, rfl, s.firstCycle_keeps_p_platform.2⟩⟩
  · have acts := microOps_good s.opCode m hm s
    simp only [Entry.advance_past, Entry.advance_bus, Entry.advance_platform, if_neg h0]
    exact ⟨acts.past, acts.access.logs⟩

/-- Settles O60, from what a bus with nothing there, of two parts, of one region and of one device does. -/
theorem theBusAndsItsComponentsAndWritesReachThemAll :
    Obligations.TheBusAndsItsComponentsAndWritesReachThemAll := by
  refine ⟨?nothing, ?parts, ?region, ?device⟩
  case nothing => exact fun p h a v hp => ⟨p.read_uncovered h a hp, p.write_uncovered a v hp⟩
  case parts => exact fun p q h a v => ⟨p.read_append q h a, p.write_append q a v⟩
  case region =>
    intro r h h' a q v ha
    exact ⟨fun m hm => Region.index_mirrored hm a, fun hm => Region.index_unmirrored hm a,
      Platform.read_one _ h a ha, fun hr => Platform.write_readOnly v hr ha,
      fun hr hq => Platform.read_write_region v hr ha hq h h'⟩
  case device => exact fun d h a v ha => ⟨Platform.read_one _ h a ha, Platform.write_one _ a v ha⟩

end Sys2Proof.Machine
end

section
/-! The family of 30_encoding.md: the decoder and the encoder as inverses over the opcode map, and step as exec of what
the bytes at PC decode to. -/

namespace Sys2Proof

/-! The encoder against the opcode map (R103, R106). -/

/-- The words of what the map makes of the bytes `op`, `b1` and `b2` are as many of these bytes as `op` takes. -/
theorem encode_decodeBytes (op b1 b2 : Byte) :
    encode (decodeBytes op b1 b2) = [op, b1, b2].take (opcodeLength op) := by
  have slot : encode (decodeBytes op b1 b2) = op ::
      (if opcodeLength op = 1 then []
        else if opcodeLength op = 2 then [b1] else [lo8 (wordOf b2 b1), hi8 (wordOf b2 b1)]) := by
    revert op
    refine byte_forall fun n hn => ?_
    interval_cases n <;> rfl
  rw [slot]
  obtain h | h | h := opcodeLength_cases op <;> simp [h]

/-- A slot with a 16-bit operand, given its halves, gives the operand back (R73, R103). -/
theorem decodeBytes_word {op : Byte} {slot : Addr → Instr} (h : ∀ lo hi, decodeBytes op lo hi = slot (wordOf hi lo))
    (w : Addr) : decodeBytes op (lo8 w) (hi8 w) = slot w := by
  rw [h, wordOf_hi8_lo8]

/-- Every instruction stands in the opcode map, at its own words. -/
theorem decodeBytes_encode (i : Instr) :
    decodeBytes ((encode i).getD 0 0) ((encode i).getD 1 0) ((encode i).getD 2 0) = i := by
  cases i <;> simp only [encode, List.getD_cons_zero, List.getD_cons_succ, List.getD_nil]
  case nopAbs0C w | oraAbs w | aslAbs w | sloAbs w | oraAbsy w | sloAbsy w | nopAbsx1C w | oraAbsx w | aslAbsx w
    | sloAbsx w | jsrAbs w | bitAbs w | andAbs w | rolAbs w | rlaAbs w | andAbsy w | rlaAbsy w | nopAbsx3C w
    | andAbsx w | rolAbsx w | rlaAbsx w | jmpAbs w | eorAbs w | lsrAbs w | sreAbs w | eorAbsy w | sreAbsy w
    | nopAbsx5C w | eorAbsx w | lsrAbsx w | sreAbsx w | jmpInd w | adcAbs w | rorAbs w | rraAbs w | adcAbsy w
    | rraAbsy w | nopAbsx7C w | adcAbsx w | rorAbsx w | rraAbsx w | styAbs w | staAbs w | stxAbs w | saxAbs w
    | staAbsy w | tasAbsy w | shyAbsx w | staAbsx w | shxAbsy w | shaAbsy w | ldyAbs w | ldaAbs w | ldxAbs w
    | laxAbs w | ldaAbsy w | lasAbsy w | ldyAbsx w | ldaAbsx w | ldxAbsy w | laxAbsy w | cpyAbs w | cmpAbs w
    | decAbs w | dcpAbs w | cmpAbsy w | dcpAbsy w | nopAbsxDC w | cmpAbsx w | decAbsx w | dcpAbsx w | cpxAbs w
    | sbcAbs w | incAbs w | iscAbs w | sbcAbsy w | iscAbsy w | nopAbsxFC w | sbcAbsx w | incAbsx w | iscAbsx w =>
    exact decodeBytes_word (fun _ _ => rfl) w
  all_goals rfl

/-! The decoder on lists of bytes (R100, R105, R115). -/

/-- As many bytes as the opcode takes are enough to decode, whatever follows them. -/
theorem decode_take_append (op b1 b2 : Byte) (rest : List Byte) :
    decode ([op, b1, b2].take (opcodeLength op) ++ rest) = .ok (decodeBytes op b1 b2, rest) := by
  rw [decodeBytes_reads op b1 b2]
  obtain h | h | h := opcodeLength_cases op <;> simp [decode, h]

/-- The decoder refuses an opcode without all its operand bytes, and names it (log 22). -/
theorem decode_truncated (op : Byte) (rest : List Byte) (hlen : (op :: rest).length < opcodeLength op) :
    decode (op :: rest) = .error (.missingOperand op) := by
  simp only [decode]
  split
  case h_4 => rfl
  all_goals
    simp only [List.length_cons] at hlen
    omega

/-- What can decode: the bytes that the opcode takes, and then the ones left over. -/
theorem exists_decodeBytes_of_decode_eq_ok {bytes rest : List Byte} {i : Instr} (hd : decode bytes = .ok (i, rest)) :
    ∃ op b1 b2, i = decodeBytes op b1 b2 ∧ bytes = [op, b1, b2].take (opcodeLength op) ++ rest := by
  cases bytes with
  | nil => cases hd
  | cons op tail =>
    simp only [decode] at hd
    split at hd
    case h_1 h => cases hd; exact ⟨op, 0, 0, rfl, by rw [h]; rfl⟩
    case h_2 b1 _ h => cases hd; exact ⟨op, b1, 0, rfl, by rw [h]; rfl⟩
    case h_3 b1 b2 _ h => cases hd; exact ⟨op, b1, b2, rfl, by rw [h]; rfl⟩
    case h_4 => cases hd

/-! The obligations of the encoding. -/

/-- Settles O2: every instruction stands in the opcode map, and its words are the bytes its slot takes. -/
theorem decodeUndoesEncode : Obligations.DecodeUndoesEncode := by
  intro i rest
  rw [← decodeBytes_encode i, encode_decodeBytes, decode_take_append]

/-- Settles O3: what decodes is a slot's bytes, and these are the words of what the slot makes of them. -/
theorem encodeUndoesDecode : Obligations.EncodeUndoesDecode := by
  intro bytes rest i hd
  obtain ⟨op, b1, b2, rfl, rfl⟩ := exists_decodeBytes_of_decode_eq_ok hd
  rw [encode_decodeBytes]

/-- Settles O4: the map has a slot for every opcode byte, which decides how many bytes are taken. -/
theorem decodingIsTotalAndTheOpcodeFixesTheLength : Obligations.DecodingIsTotalAndTheOpcodeFixesTheLength := by
  refine ⟨fun b0 b1 b2 rest => ?_, decode_truncated, rfl⟩
  have bounds : 1 ≤ opcodeLength b0 ∧ opcodeLength b0 ≤ 3 := by
    have := opcodeLength_cases b0
    omega
  refine ⟨bounds.1, bounds.2, _, decode_cons b0 b1 b2 rest, ?_⟩
  rw [encode_decodeBytes]
  exact ⟨by simpa using bounds.2, List.head?_take.trans (if_neg (by omega))⟩

/-- Settles O1, word by word. -/
theorem specWordsDecodeAsTheOpcodeMapSays : Obligations.SpecWordsDecodeAsTheOpcodeMapSays :=
  ⟨rfl, rfl, rfl, rfl, rfl, rfl, rfl, rfl, rfl⟩

end Sys2Proof

namespace Sys2Proof.Machine

/-! The instruction at PC (R100, R105). -/

theorem State.pc_takeByte (s : State) (b : Byte) : (s.takeByte b).pc = s.pc + 1 := wordOf_hi8_lo8 (s.pc + 1)

/-- The instruction at PC is what the map makes of the environment's answers at PC, PC + 1 and PC + 2, one after the
other. -/
theorem State.fetchInstr_eq (s : State) :
    let first := s.thenRead [] s.pc
    let second := s.thenRead first (s.pc + 1)
    s.fetchInstr = decodeBytes (s.peek s.pc) (s.answer first (s.pc + 1)) (s.answer second (s.pc + 2)) := by
  simp [State.fetchInstr, State.peek, State.answer, State.thenRead, State.pc_takeByte, State.pc_fetchOpcode,
    BitVec.add_assoc]

/-- Settles O8: at a boundary the step fetches, and the three bytes it fetches decode to what it runs. -/
theorem stepRunsTheDecodedInstruction : Obligations.StepRunsTheDecodedInstruction := by
  refine ⟨?fetched, ?interrupt, ?inside⟩
  case fetched =>
    intro s i rest h0 hp hd
    have hi : s.fetchInstr = i :=
      s.fetchInstr_eq.trans (congrArg Prod.fst (Except.ok.inj ((decode_cons ..).symm.trans hd)))
    simp [step, h0, hp, hi]
  case interrupt => intro s h0 hp; simp [step, h0, hp]
  case inside => intro s h0; simp [step, h0]

end Sys2Proof.Machine
end

section
/-! The family of 40_sequencer.md, the bus: the accesses of each addressing mode (R142 to R156), for every instruction of
the mode. -/

namespace Sys2Proof.Machine

/-! An instruction of one shape runs the shape's entry with some operation, which is blind to the latches and, but for a
store's byte, touches A, X, Y, S and P alone. -/

/-- `i` runs the entry `e` with some operation on the state. -/
def ImpliedBy (e : (State → State) → Entry) (i : Instr) : Prop :=
  ∃ g, (∀ s, exec i s = runInstr (opcodeOf i) (e g) s) ∧ LatchBlind g ∧ ∀ s, KeepsRest s (g s)

/-- `i` runs the entry `e` with some operation on the byte it reads. -/
def ReadsBy (e : ReadOp → Entry) (i : Instr) : Prop :=
  ∃ g, (∀ s, exec i s = runInstr (opcodeOf i) (e g) s) ∧ OpBlind g ∧ g.KeepsRest

/-- `i` runs the entry `e` with some byte to store. -/
def WritesBy (e : (State → Byte) → Entry) (i : Instr) : Prop :=
  ∃ v, (∀ s, exec i s = runInstr (opcodeOf i) (e v) s) ∧ ValueBlind v

/-- The modifications of the RMW instructions (R240 to R252, R331 to R338). -/
inductive RmwModify : Modify → Prop where
  | asl : RmwModify aslByte
  | lsr : RmwModify lsrByte
  | rol : RmwModify rolByte
  | ror : RmwModify rorByte
  | inc : RmwModify incByte
  | dec : RmwModify decByte
  | slo : RmwModify modifySlo
  | rla : RmwModify modifyRla
  | sre : RmwModify modifySre
  | rra : RmwModify modifyRra
  | dcp : RmwModify modifyDcp
  | isc : RmwModify modifyIsc

theorem RmwModify.blind_keepsRest {g : Modify} (h : RmwModify g) :
    ModifyBlind g ∧ ∀ v s, KeepsRest s (g v s).2 := by
  cases h with
  | asl => exact ⟨blind_aslByte, keepsRest_aslByte⟩
  | lsr => exact ⟨blind_lsrByte, keepsRest_lsrByte⟩
  | rol => exact ⟨blind_rolByte, keepsRest_rolByte⟩
  | ror => exact ⟨blind_rorByte, keepsRest_rorByte⟩
  | inc => exact ⟨blind_incByte, keepsRest_incByte⟩
  | dec => exact ⟨blind_decByte, keepsRest_decByte⟩
  | slo => exact ⟨blind_modifySlo, keepsRest_modifySlo⟩
  | rla => exact ⟨blind_modifyRla, keepsRest_modifyRla⟩
  | sre => exact ⟨blind_modifySre, keepsRest_modifySre⟩
  | rra => exact ⟨blind_modifyRra, keepsRest_modifyRra⟩
  | dcp => exact ⟨blind_modifyDcp, keepsRest_modifyDcp⟩
  | isc => exact ⟨blind_modifyIsc, keepsRest_modifyIsc⟩

/-- `i` runs the entry `e` with some modification. -/
def ModifiesBy (e : Modify → Entry) (i : Instr) : Prop :=
  ∃ g, (∀ s, exec i s = runInstr (opcodeOf i) (e g) s) ∧ RmwModify g

section shapes
variable (b : Byte) (w : Addr)

/-- An accumulator instruction is an implied one whose operation replaces A (R143). -/
theorem impliedBy_impliedInstrs : ∀ i ∈ impliedInstrs, ImpliedBy impliedSeq i := by
  intro i hi
  fin_cases hi <;>
    exact ⟨_, fun _ => rfl, blind_of_rfl (fun _ _ _ _ _ => rfl) fun _ => rfl, fun _ => .of_eq _ _ _ _ _ rfl⟩

theorem readsBy_reads :
    (∀ i ∈ immediateInstrs, ReadsBy (immediateSeq (.byte b)) (i b)) ∧
    (∀ i ∈ zpReads, ReadsBy (readSeq (addrZp (.byte b))) (i b)) ∧
    (∀ j i, (j, i) ∈ zpIndexedReads → ReadsBy (readSeq (addrZpIndexed (.byte b) j)) (i b)) ∧
    (∀ i ∈ absReads, ReadsBy (readSeq (addrAbs (.word w))) (i w)) ∧
    (∀ i ∈ izxReads, ReadsBy (readSeq (addrIzx (.byte b))) (i b)) ∧
    (∀ j i, (j, i) ∈ absIndexedReads → ReadsBy (readAbsIndexedSeq (.word w) j) (i w)) ∧
    ∀ i ∈ izyReads, ReadsBy (readIzySeq (.byte b)) (i b) := by
  refine ⟨fun i hi => ?_, fun i hi => ?_, fun j i hi => ?_, fun i hi => ?_, fun i hi => ?_, fun j i hi => ?_,
    fun i hi => ?_⟩
  all_goals fin_cases hi <;>
    exact ⟨_, fun _ => rfl, fun _ => blind_of_rfl (fun _ _ _ _ _ => rfl) fun _ => rfl,
      fun _ _ => .of_eq _ _ _ _ _ rfl⟩

theorem writesBy_writes :
    (∀ i ∈ zpWrites, WritesBy (writeSeq (addrZp (.byte b))) (i b)) ∧
    (∀ j i, (j, i) ∈ zpIndexedWrites → WritesBy (writeSeq (addrZpIndexed (.byte b) j)) (i b)) ∧
    (∀ i ∈ absWrites, WritesBy (writeSeq (addrAbs (.word w))) (i w)) ∧
    (∀ i ∈ izxWrites, WritesBy (writeSeq (addrIzx (.byte b))) (i b)) ∧
    (∀ j i, (j, i) ∈ absIndexedWrites → WritesBy (writeSeq (addrAbsIndexed (.word w) j)) (i w)) ∧
    ∀ i ∈ izyWrites, WritesBy (writeSeq (addrIzy (.byte b))) (i b) := by
  refine ⟨fun i hi => ?_, fun j i hi => ?_, fun i hi => ?_, fun i hi => ?_, fun j i hi => ?_, fun i hi => ?_⟩
  all_goals fin_cases hi <;> exact ⟨_, fun _ => rfl, fun _ _ _ _ _ => rfl⟩

theorem modifiesBy_rmws :
    (∀ i ∈ zpRmws, ModifiesBy (rmwSeq (addrZp (.byte b))) (i b)) ∧
    (∀ j i, (j, i) ∈ zpIndexedRmws → ModifiesBy (rmwSeq (addrZpIndexed (.byte b) j)) (i b)) ∧
    (∀ i ∈ absRmws, ModifiesBy (rmwSeq (addrAbs (.word w))) (i w)) ∧
    (∀ i ∈ izxRmws, ModifiesBy (rmwSeq (addrIzx (.byte b))) (i b)) ∧
    (∀ j i, (j, i) ∈ absIndexedRmws → ModifiesBy (rmwSeq (addrAbsIndexed (.word w) j)) (i w)) ∧
    ∀ i ∈ izyRmws, ModifiesBy (rmwSeq (addrIzy (.byte b))) (i b) := by
  refine ⟨fun i hi => ?_, fun j i hi => ?_, fun i hi => ?_, fun i hi => ?_, fun j i hi => ?_, fun i hi => ?_⟩
  all_goals fin_cases hi <;> exact ⟨_, fun _ => rfl, by constructor⟩

end shapes

/-! What the bus of each shape shows. -/

section traces
variable {i : Instr} {b : Byte} {w : Addr} {j : Index} {address : List MicroOp} {m : Mode} {s : State} {n : Addr}
  {o : Byte}

theorem ImpliedBy.trace (h : ImpliedBy impliedSeq i) (s : State) :
    ∃ t, exec i s = .next t ∧ t.bus = s.thenReads (fetch1 s i) [s.pc + 1] := by
  obtain ⟨g, he, hb, hk⟩ := h
  exact ⟨_, (he s).trans (run_implied i s hb), (hk _).bus⟩

theorem ReadsBy.trace_immediate (h : ReadsBy (immediateSeq (.byte b)) i) (s : State) :
    ∃ t, exec i s = .next t ∧ t.bus = fetch2 s i b := by
  obtain ⟨g, he, hb, hk⟩ := h
  exact ⟨_, (he s).trans (run_immediate i b s hb), (hk _ _).bus⟩

/-- A mode without a page crossing has no access but its fetches before its operand. -/
theorem Mode.leads_eq_fetches (hm : m.indexed s i = none) : m.leads s i = m.fetches s i := by rw [Mode.leads, hm]

/-- A page-crossing form always reads at the unfixed address before it writes (R149, R150, R154, R155). -/
theorem Mode.leads_of_indexed {base : Addr} {v : Byte} (hm : m.indexed s i = some (base, v)) :
    m.leads s i = s.thenRead (m.fetches s i) (unfixed base v) := by rw [Mode.leads, hm]

theorem ReadsBy.trace (h : ReadsBy (readSeq address) i) (hr : Reaches i address m s n o) (hm : m.indexed s i = none) :
    ∃ t, exec i s = .next t ∧ t.bus = s.thenRead (m.fetches s i) (m.ea s i) := by
  obtain ⟨g, he, hb, hk⟩ := h
  refine ⟨_, (he s).trans (run_readSeq hr hm hb), (hk _ _).bus.trans ?_⟩
  show s.thenRead (m.leadsToRead s i) _ = _
  rw [Mode.leadsToRead_eq hm, Mode.leads_eq_fetches hm]

/-- The read of a page-crossing form: at the unfixed address, and again at the corrected one when the index carries
(R148, R153). -/
theorem Source.trace_indexed {base : Addr} {v : Byte} (hm : m.indexed s i = some (base, v)) :
    (Source.mem m).trace s i = s.thenReads (m.fetches s i)
      (if carries base v then [unfixed base v, m.ea s i] else [m.ea s i]) := by
  simp only [Source.trace, Mode.leadsToRead, hm]
  split <;> rfl

theorem ReadsBy.trace_absIndexed (h : ReadsBy (readAbsIndexedSeq (.word w) j) i) (s : State) :
    ∃ t, exec i s = .next t ∧ t.bus = (Source.mem (.absIndexed j w)).trace s i := by
  obtain ⟨g, he, hb, hk⟩ := h
  exact ⟨_, (he s).trans (run_readAbsIndexed i w j s hb), (hk _ _).bus⟩

theorem ReadsBy.trace_izy (h : ReadsBy (readIzySeq (.byte b)) i) (s : State) :
    ∃ t, exec i s = .next t ∧ t.bus = (Source.mem (.izy b)).trace s i := by
  obtain ⟨g, he, hb, hk⟩ := h
  exact ⟨_, (he s).trans (run_readIzy i b s hb), (hk _ _).bus⟩

theorem WritesBy.trace (h : WritesBy (writeSeq address) i) (hr : Reaches i address m s n o) {l : List BusAccess}
    (hl : m.leads s i = l) : ∃ t v, exec i s = .next t ∧ t.bus = l ++ [.write (m.ea s i) v] := by
  obtain ⟨v, he, hb⟩ := h
  rw [← hl]
  exact ⟨_, v (s.addressed i m n o (m.leads s i)), (he s).trans (run_writeSeq hr hb), rfl⟩

theorem ModifiesBy.trace (h : ModifiesBy (rmwSeq address) i) (hr : Reaches i address m s n o) {l : List BusAccess}
    (hl : m.leads s i = l) : ∃ t v, exec i s = .next t ∧ t.bus = s.thenRead l (m.ea s i) ++
      [.write (m.ea s i) (s.answer l (m.ea s i)), .write (m.ea s i) v] := by
  obtain ⟨g, he, hg⟩ := h
  obtain ⟨hb, hk⟩ := hg.blind_keepsRest
  obtain ⟨-, hbus, -⟩ := (hk (m.modified s i) (rmwRead i m s n)).rmw_ends (g (m.modified s i) (rmwRead i m s n)).1
  rw [← hl]
  exact ⟨_, _, (he s).trans (run_rmwSeq hr hb), hbus.trans (List.append_assoc ..)⟩

/-- SHA, SHX and SHY: the dummy read, and the store where R355 says. -/
theorem trace_shSeq {v : State → Byte} (he : exec i s = runInstr (opcodeOf i) (shSeq address j v) s)
    (hr : Reaches i address m s n o) (hm : m.indexed s i = some (w, j.value s))
    (hea : m.ea s i = w + (j.value s).setWidth 16) (hv : ValueBlind v)
    (hp : v (s.addressed i m n o (m.leads s i)) = v s) :
    ∃ t v, exec i s = .next t ∧ t.bus = s.thenRead (m.fetches s i) (unfixed w (j.value s)) ++
      [.write (highPlace w (j.value s) v) v] :=
  ⟨_, _, he.trans (run_shSeq i w j s hr hm hea hv hp), rfl⟩

/-- TAS stores as SHA does. -/
theorem trace_tasSeq (he : exec i s = runInstr (opcodeOf i) (tasSeq address) s) (hr : Reaches i address m s n o)
    (hm : m.indexed s i = some (w, s.y)) (hea : m.ea s i = w + s.y.setWidth 16) :
    ∃ t v, exec i s = .next t ∧ t.bus = s.thenRead (m.fetches s i) (unfixed w s.y) ++ [.write (highPlace w s.y v) v] :=
  ⟨_, _, he.trans (run_tasSeq i w s hr hm hea), rfl⟩

end traces

/-! The obligations on the bus. -/

/-- Settles O56: every such instruction runs the sequence of R142, or of R144, with an operation that leaves the bus log. -/
theorem impliedAndImmediateTraces : Obligations.ImpliedAndImmediateTraces := by
  intro s b
  obtain ⟨immR, -⟩ := readsBy_reads b 0
  exact ⟨fun i hi => (impliedBy_impliedInstrs i hi).trace s, fun i hi => (immR i hi).trace_immediate s⟩

/-- Settles O57: no mode of this statement crosses a page, so its fetches alone lead to the operand. -/
theorem unindexedAndPreindexedTraces : Obligations.UnindexedAndPreindexedTraces := by
  intro s b w reads writes modifies
  obtain ⟨-, zpR, zpiR, absR, izxR, -⟩ := readsBy_reads b w
  obtain ⟨zpW, zpiW, absW, izxW, -⟩ := writesBy_writes b w
  obtain ⟨zpM, zpiM, absM, izxM, -⟩ := modifiesBy_rmws b w
  have zp (i : Instr) := reaches_zp i b s
  have zpi (i : Instr) (j : Index) := reaches_zpIndexed i b j s
  have abs (i : Instr) := reaches_abs i w s
  have izx (i : Instr) := reaches_izx i b s
  refine ⟨fun i hi => ?_, fun i hi => ?_, fun i hi => ?_, ⟨fun j i hi => ?_, fun j i hi => ?_, fun j i hi => ?_⟩,
    fun i hi => ?_, fun i hi => ?_, fun i hi => ?_, fun i hi => ?_, fun i hi => ?_, fun i hi => ?_⟩
  · exact (zpR i hi).trace (zp _) rfl
  · exact (zpW i hi).trace (zp _) (Mode.leads_eq_fetches rfl)
  · exact (zpM i hi).trace (zp _) (Mode.leads_eq_fetches rfl)
  · exact (zpiR j i hi).trace (zpi _ j) rfl
  · exact (zpiW j i hi).trace (zpi _ j) (Mode.leads_eq_fetches rfl)
  · exact (zpiM j i hi).trace (zpi _ j) (Mode.leads_eq_fetches rfl)
  · exact (absR i hi).trace (abs _) rfl
  · exact (absW i hi).trace (abs _) (Mode.leads_eq_fetches rfl)
  · exact (absM i hi).trace (abs _) (Mode.leads_eq_fetches rfl)
  · exact (izxR i hi).trace (izx _) rfl
  · exact (izxW i hi).trace (izx _) (Mode.leads_eq_fetches rfl)
  · exact (izxM i hi).trace (izx _) (Mode.leads_eq_fetches rfl)

/-- Settles O58: every mode of this statement may cross a page, so a write and an RMW make the dummy read first, and a read
makes it when the index carries. -/
theorem indexedTracesReadAtTheUnfixedAddress : Obligations.IndexedTracesReadAtTheUnfixedAddress := by
  intro s b w reads writes modifies storesHigh
  obtain ⟨-, -, -, -, -, absR, izyR⟩ := readsBy_reads b w
  obtain ⟨-, -, -, -, absW, izyW⟩ := writesBy_writes b w
  obtain ⟨-, -, -, -, absM, izyM⟩ := modifiesBy_rmws b w
  have abs (i : Instr) (j : Index) := reaches_absIndexed i w j s
  have izy (i : Instr) := reaches_izy i b s
  refine ⟨fun j i hi => ?_, fun j i hi => ?_, fun j i hi => ?_, fun j i hi => ?_, fun i hi => ?_, fun i hi => ?_,
    fun i hi => ?_, ?_⟩
  · obtain ⟨t, ht, hb⟩ := (absR j i hi).trace_absIndexed s
    exact ⟨t, ht, hb.trans (Source.trace_indexed rfl)⟩
  · exact (absW j i hi).trace (abs _ j) (Mode.leads_of_indexed rfl)
  · exact (absM j i hi).trace (abs _ j) (Mode.leads_of_indexed rfl)
  · fin_cases hi
    · exact trace_tasSeq (exec_tasAbsy w s) (abs _ .y) rfl rfl
    · exact trace_shSeq (exec_shyAbsx w s) (abs _ .x) rfl rfl blind_sourceShy rfl
    · exact trace_shSeq (exec_shxAbsy w s) (abs _ .y) rfl rfl blind_sourceShx rfl
    · exact trace_shSeq (exec_shaAbsy w s) (abs _ .y) rfl rfl blind_sourceSha rfl
  · obtain ⟨t, ht, hb⟩ := (izyR i hi).trace_izy s
    exact ⟨t, ht, hb.trans (Source.trace_indexed rfl)⟩
  · exact (izyW i hi).trace (izy _) (Mode.leads_of_indexed rfl)
  · exact (izyM i hi).trace (izy _) (Mode.leads_of_indexed rfl)
  · exact trace_shSeq (exec_shaIzy b s) (izy _) rfl rfl blind_sourceSha rfl

end Sys2Proof.Machine
end

section
/-! The family of 40_sequencer.md, c0 (R133): an interrupt is dispatched, or the opcode at PC fetched. -/

namespace Sys2Proof.Machine

/-- The Tick of a boundary is c0, and the advance of the entry that it chooses (R131). -/
theorem tick_boundary {s : State} (h : s.opCodeCycle = 0) :
    tick s = .next ((microOps s.firstCycle.opCode).advance 0 s.firstCycle false) := by
  simp only [tick, h, if_true]

/-- c0 with an interrupt to dispatch: NMI first. The sequences do not poll, so their c1 is next (R139). -/
theorem tick_dispatch {s : State} (h : s.opCodeCycle = 0) (hp : s.interruptPending = true) :
    tick s = .next ((({ s with
      opCode := if s.nmiSignal then .nmiSequence else .irqSequence, nmiSignal := false } : State).during s
        [.read s.pc (s.peek s.pc)]).atCycle 1) := by
  rw [tick_boundary h, State.firstCycle, if_pos hp, dispatchInterrupt_eq, State.thenRead_nil]
  cases s.nmiSignal with
  | true => exact congrArg Host.Outcome.next ((interruptEntry nmiVector).advance_quiet 0 _ false rfl)
  | false => exact congrArg Host.Outcome.next ((interruptEntry irqVector).advance_quiet 0 _ false rfl)

/-- c0 with nothing to dispatch is the opcode fetch. -/
theorem firstCycle_eq_fetchOpcode {s : State} (hp : s.interruptPending = false) :
    s.firstCycle = s.fetchOpcode (s.peek s.pc) := by
  rw [State.firstCycle, hp, if_neg Bool.false_ne_true]

/-- The advance of the fetched opcode's entry follows it. -/
theorem tick_fetch {s : State} (h : s.opCodeCycle = 0) (hp : s.interruptPending = false) :
    tick s = .next ((opcodeEntry (s.peek s.pc) .live).advance 0 (s.fetchOpcode (s.peek s.pc)) false) := by
  rw [tick_boundary h, firstCycle_eq_fetchOpcode hp]
  rfl

/-- Settles O17, from the two kinds of c0. -/
theorem firstCycleDispatchesOrFetches : Obligations.FirstCycleDispatchesOrFetches := by
  intro s h
  cases hp : s.interruptPending with
  | true =>
    refine ⟨_, tick_dispatch h hp, ⟨fun r _ => by cases r <;> rfl, fun _ _ => rfl⟩, keepsMemory_of rfl, ⟨rfl, rfl, rfl⟩,
      rfl, rfl, ?_⟩
    cases hn : s.nmiSignal with
    | true => exact ⟨rfl, rfl, rfl, rfl, rfl⟩
    | false =>
      have hi : (s.irqSignal && !s.flag .i) = true := by simpa [State.interruptPending, hn] using hp
      rw [if_pos hi]
      exact ⟨rfl, rfl, rfl, rfl, rfl⟩
  | false =>
    obtain ⟨hn, hi⟩ : s.nmiSignal = false ∧ (s.irqSignal && !s.flag .i) = false := Bool.or_eq_false_iff.1 hp
    obtain ⟨irq, nmi, edge, ha⟩ := (opcodeEntry (s.peek s.pc) .live).advance_eq 0 (s.fetchOpcode (s.peek s.pc)) false
    refine ⟨_, (tick_fetch h hp).trans (congrArg _ ha), ⟨fun r _ => by cases r <;> rfl, fun _ _ => rfl⟩,
      keepsMemory_of rfl, ⟨rfl, rfl, rfl⟩, rfl, rfl, ?_⟩
    rw [hn, hi, if_neg Bool.false_ne_true, if_neg Bool.false_ne_true]
    exact ⟨rfl, s.pc_fetchOpcode _⟩

end Sys2Proof.Machine
end

section
/-! The family of 40_sequencer.md, whole instructions: how many cycles each entry runs (R169, R170), and the end of
every instruction. -/

namespace Sys2Proof.Machine

/-! The length of an instruction, as its entry has it. -/

/-- The cycles of the entry `e` for the instruction `i` with the operand bytes `b` and `b'` (R170): a branch takes 2 and
those that R170 adds, an indexed read all of its entry but the last, which it takes when the index carries, and the others all. -/
def Entry.actualLength (e : Entry) (i : Instr) (b b' : Byte) (s : State) : Nat :=
  match e.polls with
  | .branch on v => 2 + branchCycles s on v b
  | .indexed 2 j => 4 + (Mode.absIndexed j (wordOf b' b)).extra s i
  | .indexed _ _ => 5 + (Mode.izy b).extra s i
  | _ => e.length

/-- The opcode byte of a slot's instruction is the slot's number (R106). -/
theorem opcodeOf_decodeBytes (op b b' : Byte) : opcodeOf (decodeBytes op b b') = op := by
  rw [opcodeOf, encode_decodeBytes]
  obtain h | h | h := opcodeLength_cases op <;> rw [h] <;> rfl

/-- The listing of 30_encoding.md against the table, opcode by opcode (R169, R170). -/
theorem actualLength_decodeBytes (op b b' : Byte) (s : State) :
    actualLength (decodeBytes op b b') s =
      (opcodeEntry op (.given b b')).actualLength (decodeBytes op b b') b b' s := by
  show baseCycles (opcodeOf (decodeBytes op b b')) + extraCycles (decodeBytes op b b') s = _
  rw [opcodeOf_decodeBytes]
  revert op
  refine byte_forall fun n hn => ?_
  interval_cases n <;> rfl

/-- The page of a branch's target is that of the next instruction when nothing carries into PCH (R158, R170). -/
theorem hi8_branchTarget_eq_iff (next : Addr) (b : Byte) :
    hi8 (branchTarget next b) = hi8 next ↔ branchCross (lo8 next) b = false := by
  have h := congrArg hi8 (wordOf_branch (hi8 next) (lo8 next) b)
  rw [hi8_wordOf, wordOf_hi8_lo8] at h
  rw [← h]
  cases branchCross (lo8 next) b with
  | false => simp
  | true => by_cases ho : b.toNat < 0x80 <;> simp [ho]

/-- A branch makes one dummy read for each cycle that R170 adds. -/
theorem branchReads_length (b : Byte) (s : State) (on : Flag) (v : Bool) :
    (branchReads b s on v).length = branchCycles s on v b := by
  simp only [branchReads, branchCycles, hi8_branchTarget_eq_iff]
  split
  · cases branchCross (lo8 (s.pc + 2)) b <;> rfl
  · rfl

/-! The end of an instruction, shape by shape. -/

/-- What a settled state needs to end an instruction that began at `s`. -/
theorem completes_settled {s q : State} (hl : q.irqLevelDetector = s.irqLevelDetector)
    (hd : q.decimalEnabled = s.decimalEnabled) (hn : q.nmiSignal = s.nmiSignal)
    (he : q.nmiEdgeDetector = s.nmiEdgeDetector) (hp : q.past = s.history)
    (hw : q.platform = s.platform.after q.bus) : Completes s q.settled :=
  ⟨rfl, hl, hd, hl, congrArg₂ or hn he, rfl, hp, hw⟩

/-- An operation at the end of a sequence keeps what the sequence has settled. -/
theorem KeepsRest.completes {s p q : State} (h : KeepsRest p q) (hl : p.irqLevelDetector = s.irqLevelDetector)
    (hd : p.decimalEnabled = s.decimalEnabled) (hn : p.nmiSignal = s.nmiSignal)
    (he : p.nmiEdgeDetector = s.nmiEdgeDetector) (hp : p.past = s.history)
    (hw : p.platform = s.platform.after p.bus) : Completes s q.settled :=
  completes_settled (h.irqLevelDetector.trans hl) (h.decimalEnabled.trans hd) (h.nmiSignal.trans hn)
    (h.nmiEdgeDetector.trans he) (h.past.trans hp) (h.platform.trans (hw.trans (congrArg _ h.bus.symm)))

theorem keepsRest_withA (p : State) (r : Byte) : KeepsRest p (p.withA r) := .of_eq _ _ _ _ _ rfl

/-- One more access, after those that lead from `s` to `p`. -/
theorem Acts.platform_eq_after {s p q : State} (h : Acts p q) (hp : p.platform = s.platform.after p.bus) :
    q.platform = s.platform.after q.bus := by
  obtain ⟨a, hb, hw⟩ | ⟨a, v, hb, hw⟩ := h.access <;> rw [hb, hw, hp, Platform.after_append] <;> rfl

/-- A page-crossing read, with one access more when its index carries. -/
theorem ReadOp.Good.completes {g : ReadOp} (h : g.Good) {r : Answer} {i : Instr} {m : Mode} {s : State}
    {n : Addr} {o : Byte}
    (hr : r = .next (g (m.fetched s i) (s.addressed i m n o (Source.trace (.mem m) s i))).settled) :
    ∃ t, r = .next t ∧ Completes s t ∧ t.bus.length = m.reach + m.extra s i + 1 := by
  have k := (h (m.fetched s i)).rest (s.addressed i m n o (Source.trace (.mem m) s i))
  exact ⟨_, hr, k.completes rfl rfl rfl rfl rfl rfl,
    (congrArg List.length k.bus).trans (Source.trace_length_mem ..)⟩

/-- The address cycles of a mode form its address, one access in each. -/
theorem AddressShape.reaches {a : Fetch → List MicroOp} (h : AddressShape a) (i : Instr) (b b' : Byte) (s : State) :
    ∃ m n o, Reaches i (a (.given b b')) m s n o ∧ (m.leads s i).length = (a (.given b b')).length + 1 := by
  cases h with
  | zp => exact ⟨_, _, _, reaches_zp i b s, by simp [Mode.reach, Mode.indexed, addrZp]⟩
  | zpIndexed j => exact ⟨_, _, _, reaches_zpIndexed i b j s, by simp [Mode.reach, Mode.indexed, addrZpIndexed]⟩
  | abs =>
    rw [← Fetch.word_wordOf]
    exact ⟨_, _, _, reaches_abs i _ s, by simp [Mode.reach, Mode.indexed, addrAbs]⟩
  | absIndexed j =>
    rw [← Fetch.word_wordOf]
    exact ⟨_, _, _, reaches_absIndexed i _ j s, by simp [Mode.reach, Mode.indexed, addrAbsIndexed]⟩
  | izx => exact ⟨_, _, _, reaches_izx i b s, by simp [Mode.reach, Mode.indexed, addrIzx]⟩
  | izy => exact ⟨_, _, _, reaches_izy i b s, by simp [Mode.reach, Mode.indexed, addrIzy]⟩

/-- An instruction with one action after its address cycles. -/
theorem AddressShape.completes {a : Fetch → List MicroOp} (ha : AddressShape a) (i : Instr) (b b' : Byte) (s : State)
    {g : State → State} (hg : LatchBlind g) (hacts : ∀ p, Acts p (g p)) :
    ∃ t, runInstr (opcodeOf i) { polls := .fixed, cycles := a (.given b b') ++ [cycle g] } s = .next t ∧
      Completes s t ∧ t.bus.length = (a (.given b b') ++ [cycle g]).length + 1 := by
  obtain ⟨m, n, o, hr, hl⟩ := ha.reaches i b b' s
  let p := s.addressed i m n o (m.leads s i)
  have acts : Acts p (g p) := hacts p
  obtain ⟨e, hbus⟩ := acts.bus
  refine ⟨(g p).settled, hr.append [g] (by simpa using hg), completes_settled acts.irqLevelDetector
    acts.decimalEnabled acts.nmiSignal acts.nmiEdgeDetector acts.past (acts.platform_eq_after rfl), ?_⟩
  calc (g p).bus.length
      = (m.leads s i).length + 1 := by rw [hbus, List.length_append]; rfl
    _ = (a (.given b b') ++ [cycle g]).length + 1 := by rw [hl, List.length_append]; rfl

/-- Every entry ends its instruction polled once, after as many accesses as its actual length. -/
theorem Shape.completes {e : Fetch → Entry} (h : Shape e) (i : Instr) (b b' : Byte) (s : State) :
    ∃ t, runInstr (opcodeOf i) (e (.given b b')) s = .next t ∧ Completes s t ∧
      t.bus.length = (e (.given b b')).actualLength i b b' s := by
  cases h with
  | implied h k =>
    have kept := h.rest (s.implied i)
    exact ⟨_, run_implied i s k, kept.completes rfl rfl rfl rfl rfl rfl, congrArg List.length kept.bus⟩
  | @accumulator g h k =>
    have kept := ((h s.a).rest (s.implied i)).trans (keepsRest_withA _ (g s.a (s.implied i)).1)
    exact ⟨_, run_accumulator i s k, kept.completes rfl rfl rfl rfl rfl rfl, congrArg List.length kept.bus⟩
  | immediate h k =>
    have kept := (h b).rest (s.progressed (opcodeOf i) 2 s.al s.ah s.operand (fetch2 s i b))
    exact ⟨_, run_immediate i b s k, kept.completes rfl rfl rfl rfl rfl rfl, congrArg List.length kept.bus⟩
  | read ha h k => exact ha.completes i b b' s (blind_readAndApply k) (good_readAndApply h)
  | readAbsIndexed j h k =>
    obtain ⟨t, ht, hc, hb⟩ := h.completes (run_readAbsIndexed i (wordOf b' b) j s k)
    rw [Fetch.word_wordOf] at ht
    exact ⟨t, ht, hc, hb.trans (by rw [Mode.reach, Nat.add_right_comm]; rfl)⟩
  | readIzy h k =>
    obtain ⟨t, ht, hc, hb⟩ := h.completes (run_readIzy i b s k)
    exact ⟨t, ht, hc, hb.trans (by rw [Mode.reach, Nat.add_right_comm]; rfl)⟩
  | write ha k => exact ha.completes i b b' s (blind_write k) fun _ => .of_write _ _ _ _ _ _ _ _ _ _ _ rfl
  | @rmw a ha g h k =>
    obtain ⟨m, n, o, hr, hl⟩ := ha.reaches i b b' s
    obtain ⟨-, hb, -, hc, -⟩ :=
      ((h (m.modified s i)).rest (rmwRead i m s n)).rmw_ends (g (m.modified s i) (rmwRead i m s n)).1
    refine ⟨_, run_rmwSeq hr k, hc, ?_⟩
    rw [hb, List.length_append, Mode.rmwLeads_length, hl]
    exact congrArg (· + 1) (List.length_append (as := a (.given b b')) (bs := rmwTail g)).symm
  | sh ha j k => exact ha.completes i b b' s (blind_storeHigh j k) fun p => acts_storeHigh j (keepsRest_refl p) rfl _
  | tas ha =>
    exact ha.completes i b b' s (blind_of_rfl (fun _ _ _ _ _ => rfl) fun _ => rfl) fun p =>
      acts_storeHigh .y (.of_eq p.a p.x p.y (p.a &&& p.x) p.p rfl) rfl _
  | branch on v =>
    refine ⟨_, run_branch i b s on v, completes_settled rfl rfl rfl rfl rfl rfl, ?_⟩
    show (s.thenReads (fetch2 s i b) (branchReads b s on v)).length = _
    rw [State.thenReads_length, branchReads_length]
    rfl
  | jmpAbs =>
    rw [← Fetch.word_wordOf]
    exact ⟨_, run_jmpAbs i _ s, completes_settled rfl rfl rfl rfl rfl rfl, rfl⟩
  | jmpIndirect =>
    rw [← Fetch.word_wordOf]
    exact ⟨_, run_jmpIndirect i _ s, completes_settled rfl rfl rfl rfl rfl rfl, rfl⟩
  | jsr =>
    rw [← Fetch.word_wordOf]
    exact ⟨_, run_jsr i _ s, completes_settled rfl rfl rfl rfl rfl rfl, rfl⟩
  | rts => exact ⟨_, run_rts i s, completes_settled rfl rfl rfl rfl rfl rfl, rfl⟩
  | rti => exact ⟨_, run_rti i s, completes_settled rfl rfl rfl rfl rfl rfl, rfl⟩
  | brk => exact ⟨_, run_brk i s, completes_settled rfl rfl rfl rfl rfl rfl, rfl⟩
  | push k => exact ⟨_, run_push i s k, completes_settled rfl rfl rfl rfl rfl rfl, rfl⟩
  | pull h k =>
    exact ⟨_, run_pull i s k, ((h _).rest _).completes rfl rfl rfl rfl rfl rfl,
      congrArg List.length ((h _).rest _).bus⟩
  | jam => exact ⟨_, run_jam i s, completes_settled rfl rfl rfl rfl rfl rfl, rfl⟩

/-- Settles O15: every instruction is a slot of the opcode map, which runs the slot's entry. -/
theorem everyInstructionPollsAndTakesItsCycles : Obligations.EveryInstructionPollsAndTakesItsCycles := by
  intro i s
  rw [← decodeBytes_encode i]
  generalize (encode i).getD 0 0 = op
  generalize (encode i).getD 1 0 = b
  generalize (encode i).getD 2 0 = b'
  have h := (opcodeEntry_shape op).completes (decodeBytes op b b') b b' s
  rwa [opcodeOf_decodeBytes, ← exec_decodeBytes, ← actualLength_decodeBytes] at h

end Sys2Proof.Machine
end

section
/-! The family of 40_sequencer.md, whole instructions as Ticks (R135, R170). -/

namespace Sys2Proof.Machine

/-- From a boundary, a step is as many Ticks as it makes accesses. -/
theorem ticks_of_step {s t : State} (h : s.opCodeCycle = 0) (ht : step s = .next t) :
    ticks t.bus.length s = .next t ∧ t.opCodeCycle = 0 := by
  rw [Host.Outcome.next.inj (ht.symm.trans (step_boundary h))]
  exact ticks_boundary h

/-- At a boundary without a pending interrupt, the step runs the actual length of the instruction at PC. -/
theorem step_fetched {s : State} (h : s.opCodeCycle = 0) (hp : s.interruptPending = false) :
    ∃ t, step s = .next t ∧ t.bus.length = actualLength s.fetchInstr s := by
  obtain ⟨t, ht, -, hb⟩ := everyInstructionPollsAndTakesItsCycles s.fetchInstr s
  exact ⟨t, by simp [step, h, hp, ht], hb⟩

theorem takeInterrupt_bus_length (s : State) : s.takeInterrupt.bus.length = 7 := by
  rw [takeInterrupt_eq]
  rfl

/-- Settles O13: a step makes one access in each of its Ticks. -/
theorem aStepIsItsTicks : Obligations.AStepIsItsTicks := by
  refine ⟨fun s h hp => ?_, fun s h hp => ?_⟩
  · obtain ⟨t, ht, hb⟩ := step_fetched h hp
    rw [ht, ← hb, (ticks_of_step h ht).1]
  · have ht : step s = .next s.takeInterrupt := by simp [step, h, hp]
    rw [ht, ← takeInterrupt_bus_length s, (ticks_of_step h ht).1]

end Sys2Proof.Machine
end

section
/-! The family of 40_sequencer.md, the poll point (R137): a Tick of an instruction polls when the next one is its
last. -/

namespace Sys2Proof.Machine

/-- `s` with the IRQ line and the NMI edge as the host leaves them between two Ticks (R394). -/
def State.withDetectors (s : State) (line edge : Bool) : State :=
  { s with irqLevelDetector := line, nmiEdgeDetector := edge }

/-- Whether the action with index `k`, which is that of cycle `k + 1`, is the entry's last when it runs from `s`. -/
def Entry.endsAt (e : Entry) (k : Nat) (s : State) : Bool :=
  match e.cycles[k]? with
  | some m => (m s).2 || k + 2 == e.length
  | none => false

/-- The polls of the entry look one cycle ahead, and neither the detectors nor the latches bear on where they are. -/
structure Entry.PollsAhead (e : Entry) : Prop where
  first : ∀ s line edge, e.pollsAt 0 (s.withDetectors line edge) false = (e.length == 1 || e.endsAt 0 s)
  inside : ∀ k m s line edge, e.cycles[k]? = some m →
    e.pollsAt (k + 1) (m (s.withDetectors line edge)).1 (m (s.withDetectors line edge)).2 =
      (!(m s).2 && e.endsAt (k + 1) (m s).1)
  blind : ∀ k s i n d c, e.endsAt k (s.withLatches i n d c) = e.endsAt k s

/-! The shapes. -/

/-- Actions that never end their instruction early. -/
abbrev GoOn (ms : List MicroOp) : Prop := ∀ m ∈ ms, ∀ s, (m s).2 = false

theorem AddressShape.goOn {a : Fetch → List MicroOp} (h : AddressShape a) : GoOn (a .live) := by
  cases h <;> intro m hm s <;> fin_cases hm <;> rfl

/-- An entry of fixed length. -/
theorem GoOn.endsAt {cs : List MicroOp} (h : GoOn cs) (k : Nat) (s : State) :
    ({ polls := .fixed, cycles := cs } : Entry).endsAt k s = (k + 1 == cs.length) := by
  simp only [Entry.endsAt, Entry.length]
  split
  case h_1 m hm => simp [h m (List.mem_of_getElem? hm)]
  case h_2 hm =>
    have := List.getElem?_eq_none_iff.1 hm
    simp; omega

theorem GoOn.pollsAhead {cs : List MicroOp} (h : GoOn cs) : ({ polls := .fixed, cycles := cs } : Entry).PollsAhead where
  first s line edge := by
    rw [h.endsAt, fixed_pollsAt, Entry.length]
    cases cs with
    | nil => rfl
    | cons m cs => cases cs <;> simp
  inside k m s line edge hm := by
    have hk : k < cs.length := (List.getElem?_eq_some_iff.1 hm).1
    rw [h.endsAt, fixed_pollsAt, h m (List.mem_of_getElem? hm)]
    rw [Bool.eq_iff_iff]
    simp; omega
  blind k s i n d c := by rw [h.endsAt, h.endsAt]

theorem readUncorrected_ends (i : Index) (g : ReadOp) (s : State) : (readUncorrected i g s).2 = !s.crossed i := by
  rw [readUncorrected]
  cases s.crossed i <;> rfl

theorem crossed_withDetectors (s : State) (i : Index) (line edge : Bool) :
    (s.withDetectors line edge).crossed i = s.crossed i := by cases i <;> rfl

section indexed
variable {cs : List MicroOp} {k : Nat} {i : Index} {g : ReadOp} (hl : cs.length = k + 3)
  (hread : cs[k + 1]? = some (readUncorrected i g))
  (hgo : ∀ j m, cs[j]? = some m → j ≠ k + 1 → ∀ s, (m s).2 = false)
include hl hread hgo

theorem endsAt_indexed (j : Nat) (s : State) :
    ({ polls := .indexed (k + 1) i, cycles := cs } : Entry).endsAt j s =
      if j = k + 1 then !s.crossed i else j == k + 2 := by
  simp only [Entry.endsAt, Entry.length, hl]
  split
  case h_1 m hm =>
    split
    case isTrue hj =>
      subst hj
      cases hread.symm.trans hm
      simp [readUncorrected_ends]
    case isFalse hj => simp [hgo j m hm hj]
  case h_2 hm =>
    have := List.getElem?_eq_none_iff.1 hm
    rw [if_neg (by omega)]
    simp; omega

/-- An indexed read: `k` is the index of the action that adds the index register. -/
theorem pollsAhead_indexed (hadd : ∀ m, cs[k]? = some m → ∀ s line edge,
    (m (s.withDetectors line edge)).1.crossed i = (m s).1.crossed i) :
    ({ polls := .indexed (k + 1) i, cycles := cs } : Entry).PollsAhead where
  first s line edge := by
    rw [endsAt_indexed hl hread hgo, indexed_pollsAt, Entry.length, hl]
    simp
  inside j m s line edge hm := by
    rw [endsAt_indexed hl hread hgo, indexed_pollsAt]
    have hj : j < k + 3 := hl ▸ (List.getElem?_eq_some_iff.1 hm).1
    obtain hj | rfl | hj : j = k ∨ j = k + 1 ∨ (j ≠ k ∧ j ≠ k + 1) := by omega
    · subst hj
      simp [hadd m hm, hgo j m hm]
    · cases hread.symm.trans hm
      simp [readUncorrected_ends, crossed_withDetectors]
    · rw [Bool.eq_iff_iff, if_neg (by omega), hgo j m hm hj.2]
      simp; omega
  blind j s irq n d c := by
    rw [endsAt_indexed hl hread hgo, endsAt_indexed hl hread hgo, crossed_withLatches]

end indexed

theorem pollsAhead_readAbsIndexed (i : Index) (g : ReadOp) : (readAbsIndexedSeq .live i g).PollsAhead := by
  refine pollsAhead_indexed (k := 1) (g := g) rfl rfl (fun j m hm hj s => ?_) fun m hm s line edge => ?_
  · match j, hm with
    | 0, rfl => rfl
    | 1, rfl => rfl
    | 3, rfl => rfl
  · cases hm
    cases i <;> rfl

theorem pollsAhead_readIzy (g : ReadOp) : (readIzySeq .live g).PollsAhead := by
  refine pollsAhead_indexed (k := 2) (g := g) rfl rfl (fun j m hm hj s => ?_) fun m hm s line edge => ?_
  · match j, hm with
    | 0, rfl => rfl
    | 1, rfl => rfl
    | 2, rfl => rfl
    | 4, rfl => rfl
  · cases hm
    rfl

theorem pollsAhead_branch (on : Flag) (v : Bool) : (branchSeq .live on v).PollsAhead where
  first s line edge := (Bool.or_false (s.flag on != v)).symm
  inside k m s line edge hm := by
    match k, hm with
    | 0, rfl => exact congrArg (!(s.flag on != v) && ·) (Bool.or_false _).symm
    | 1, rfl => exact (Bool.and_true _).symm
    | 2, rfl => rfl
  blind k s i n d c := by
    match k with
    | 0 | 1 | 2 => rfl
    | k + 3 => rfl

/-- Every opcode entry polls one cycle before its last. -/
theorem Shape.pollsAhead {e : Fetch → Entry} (h : Shape e) : (e .live).PollsAhead := by
  cases h with
  | readAbsIndexed i h k => exact pollsAhead_readAbsIndexed i _
  | readIzy h k => exact pollsAhead_readIzy _
  | branch on v => exact pollsAhead_branch on v
  | read ha | write ha | rmw ha | sh ha | tas ha =>
    exact GoOn.pollsAhead (List.forall_mem_append.2 ⟨ha.goOn, fun m hm s => by fin_cases hm <;> rfl⟩)
  | _ => exact GoOn.pollsAhead fun m hm s => by fin_cases hm <;> rfl

end Sys2Proof.Machine
end

section
/-! The family of 40_sequencer.md, the poll of every Tick (R131, R136, R137, R139). -/

namespace Sys2Proof.Machine

/-! Runs of Ticks. -/

/-- A run of Ticks goes on from where a shorter one has come. -/
theorem ticks_add {m : Nat} {s u : State} (h : ticks m s = .next u) (n : Nat) : ticks (m + n) s = ticks n u := by
  induction m generalizing s with
  | zero => cases h; rw [Nat.zero_add]
  | succ m ih =>
    rw [Nat.succ_add]
    simp only [ticks] at h ⊢
    split at h
    case h_1 s' hs' => exact ih h
    all_goals cases h

/-- The first Tick of a run. -/
theorem tick_of_ticks_succ {n : Nat} {s t : State} (h : ticks (n + 1) s = .next t) :
    ∃ u, tick s = .next u ∧ ticks n u = .next t := by
  simp only [ticks] at h
  split at h
  case h_1 u hu => exact ⟨u, hu, h⟩
  all_goals cases h

theorem ticks_one {s t : State} (h : tick s = .next t) : ticks 1 s = .next t := by simp only [ticks, h]

/-- The last Tick of a run. -/
theorem ticks_of_ticks_succ {n : Nat} {s t : State} (h : ticks (n + 1) s = .next t) :
    ∃ u, ticks n s = .next u ∧ tick u = .next t := by
  induction n generalizing s with
  | zero =>
    obtain ⟨u, hu, ht⟩ := tick_of_ticks_succ h
    cases ht
    exact ⟨s, rfl, hu⟩
  | succ n ih =>
    obtain ⟨s', hs', h⟩ := tick_of_ticks_succ h
    obtain ⟨u, hu, ht⟩ := ih h
    exact ⟨u, by simp only [ticks, hs', hu], ht⟩

/-- A Tick adds one access to the log, which c0 starts anew. -/
theorem tick_bus_length {s t : State} (h : tick s = .next t) :
    t.bus.length = (if s.opCodeCycle = 0 then 0 else s.bus.length) + 1 := by
  obtain ⟨-, e, hb, -⟩ := everyTickMakesOneBusAccess s t h
  rw [hb, List.length_append]
  split <;> rfl

/-- The log of a run holds no more accesses than it has Ticks and there were before it. -/
theorem bus_length_le_of_ticks {n : Nat} {s t : State} (h : ticks n s = .next t) :
    t.bus.length ≤ s.bus.length + n := by
  induction n generalizing s with
  | zero => cases h; exact Nat.le_refl _
  | succ n ih =>
    obtain ⟨u, hu, h⟩ := tick_of_ticks_succ h
    have := ih h
    rw [tick_bus_length hu] at this
    split at this <;> omega

/-- A Tick inside an instruction runs the action with index `k` of its entry. -/
theorem tick_eq_next_iff {s t : State} {k : Nat} (hk : s.opCodeCycle = k + 1) :
    tick s = .next t ↔
      ∃ m, (microOps s.opCode).cycles[k]? = some m ∧ (microOps s.opCode).advance (k + 1) (m s).1 (m s).2 = t := by
  simp only [tick, hk, Nat.add_one_ne_zero, if_false, Nat.add_sub_cancel]
  cases (microOps s.opCode).cycles[k]? <;> simp

/-- An advance that does not end the instruction goes to the next cycle. -/
theorem Entry.advance_opCodeCycle_of_ne {e : Entry} {k : Nat} {s : State} {ended : Bool}
    (h : (e.advance k s ended).opCodeCycle ≠ 0) : (e.advance k s ended).opCodeCycle = k + 1 := by
  rw [Entry.advance_opCodeCycle] at h ⊢
  split at h
  · exact absurd rfl h
  · rw [if_neg ‹_›]

/-- The entry has no action after its last. -/
theorem Entry.endsAt_of_length_le {e : Entry} {k : Nat} (hk : e.length ≤ k + 1) (s : State) :
    e.endsAt k s = false := by
  rw [Entry.length] at hk
  rw [Entry.endsAt, List.getElem?_eq_none (by omega)]

/-! Inside an instruction that begins at `s` and ends at `t`, after `n` Ticks with one access each. -/

section within
variable {s t : State} {n : Nat} (hn : ticks n s = .next t) (hb : t.bus.length = n)
include hn hb

/-- Before the last Tick there is no boundary: the log would hold too few accesses. -/
theorem opCodeCycle_ne_zero_within {j : Nat} {u : State} (hpos : 0 < j) (hj : j < n) (hu : ticks j s = .next u) :
    u.opCodeCycle ≠ 0 := by
  intro h0
  obtain ⟨d, rfl⟩ := Nat.exists_eq_add_of_lt hj
  rw [Nat.add_assoc, ticks_add hu] at hn
  obtain ⟨u', hu', ht⟩ := tick_of_ticks_succ hn
  have hlen := bus_length_le_of_ticks ht
  rw [tick_bus_length hu', if_pos h0] at hlen
  omega

variable (h : s.opCodeCycle = 0)
include h

/-- The state after `k + 1` Ticks is in cycle `k + 1` of the entry that c0 has chosen. -/
theorem cycle_within {k : Nat} {u : State} (hk : k + 1 < n) (hu : ticks (k + 1) s = .next u) :
    u.opCode = s.firstCycle.opCode ∧ u.opCodeCycle = k + 1 := by
  induction k generalizing u with
  | zero =>
    obtain ⟨u', hu', hu''⟩ := tick_of_ticks_succ hu
    cases hu''
    cases (tick_boundary h).symm.trans hu'
    exact ⟨Entry.advance_opCode ..,
      Entry.advance_opCodeCycle_of_ne (opCodeCycle_ne_zero_within hn hb Nat.one_pos hk hu)⟩
  | succ k ih =>
    obtain ⟨u₀, hu₀, hlast⟩ := ticks_of_ticks_succ hu
    obtain ⟨ho, hc⟩ := ih (Nat.lt_of_succ_lt hk) hu₀
    obtain ⟨m, hm, rfl⟩ := (tick_eq_next_iff hc).1 hlast
    have acts := microOps_good u₀.opCode m (List.mem_of_getElem? hm) u₀
    exact ⟨(Entry.advance_opCode ..).trans (acts.opCode.trans ho),
      Entry.advance_opCodeCycle_of_ne (opCodeCycle_ne_zero_within hn hb (Nat.succ_pos _) hk hu)⟩

variable (ht : t.opCodeCycle = 0)
include ht

/-- The Tick after `k + 1` Ticks is the last when the entry says that its action is. -/
theorem endsAt_iff_within {k : Nat} {u : State} (hk : k + 1 < n) (hu : ticks (k + 1) s = .next u) :
    (microOps s.firstCycle.opCode).endsAt k u = true ↔ k + 2 = n := by
  obtain ⟨ho, hc⟩ := cycle_within hn hb h hk hu
  obtain ⟨d, rfl⟩ := Nat.exists_eq_add_of_lt hk
  have hrest := hn
  rw [Nat.add_assoc, ticks_add hu] at hrest
  obtain ⟨u', hu', hrest⟩ := tick_of_ticks_succ hrest
  obtain ⟨m, hm, rfl⟩ := (tick_eq_next_iff hc).1 hu'
  rw [ho] at hm hu' hrest
  have hends : (microOps s.firstCycle.opCode).endsAt k u = true ↔
      ((microOps s.firstCycle.opCode).advance (k + 1) (m u).1 (m u).2).opCodeCycle = 0 := by
    simp only [Entry.endsAt, hm, Entry.advance_opCodeCycle]
    split <;> simp [*]
  rw [hends]
  match d with
  | 0 =>
    cases hrest
    exact ⟨fun _ => rfl, fun _ => ht⟩
  | d + 1 =>
    have hne := opCodeCycle_ne_zero_within hn hb (Nat.succ_pos _) (by omega) ((ticks_add hu 1).trans (ticks_one hu'))
    exact ⟨fun h0 => absurd h0 hne, by omega⟩

/-- The Tick of cycle `k + 1` polls when the next one is the last, whatever the host has put into the detectors. -/
theorem pollsAt_iff_within (ahead : (microOps s.firstCycle.opCode).PollsAhead) {k : Nat} {u : State} {m : MicroOp}
    (hk : k + 1 < n) (hu : ticks (k + 1) s = .next u) (hm : (microOps s.firstCycle.opCode).cycles[k]? = some m)
    (line edge : Bool) :
    (microOps s.firstCycle.opCode).pollsAt (k + 1) (m (u.withDetectors line edge)).1
      (m (u.withDetectors line edge)).2 = true ↔ k + 3 = n := by
  obtain ⟨ho, hc⟩ := cycle_within hn hb h hk hu
  have hends := endsAt_iff_within hn hb h ht hk hu
  simp only [Entry.endsAt, hm, Bool.or_eq_true, beq_iff_eq] at hends
  rw [ahead.inside k m u line edge hm]
  obtain hlast | hlast : k + 2 = n ∨ k + 2 < n := by omega
  · have hfalse : (!(m u).2 && (microOps s.firstCycle.opCode).endsAt (k + 1) (m u).1) = false := by
      obtain hended | hlen := hends.2 hlast
      · rw [hended]; rfl
      · rw [Entry.endsAt_of_length_le hlen.ge, Bool.and_false]
    rw [hfalse]
    exact ⟨fun hf => absurd hf Bool.false_ne_true, by omega⟩
  · have hgoes : (m u).2 = false := Bool.eq_false_iff.2 fun hended => by
      have := hends.1 (.inl hended)
      omega
    have hu' : tick u = .next ((microOps s.firstCycle.opCode).advance (k + 1) (m u).1 (m u).2) :=
      (tick_eq_next_iff hc).2 ⟨m, by rw [ho]; exact hm, by rw [ho]⟩
    have hnext := endsAt_iff_within hn hb h ht hlast ((ticks_add hu 1).trans (ticks_one hu'))
    obtain ⟨i, nmi, d, ha⟩ := (microOps s.firstCycle.opCode).advance_eq (k + 1) (m u).1 (m u).2
    rw [ha, ahead.blind] at hnext
    rw [hgoes, Bool.not_false, Bool.true_and, hnext]

/-- The Tick of c0 polls when it, or the next one, is the last. -/
theorem pollsAt_zero_iff_within (ahead : (microOps s.firstCycle.opCode).PollsAhead) (hpos : 0 < n) (line edge : Bool) :
    (microOps s.firstCycle.opCode).pollsAt 0 (s.firstCycle.withDetectors line edge) false = true ↔ n ≤ 2 := by
  have hu := ticks_one (tick_boundary h)
  rw [ahead.first, Bool.or_eq_true, beq_iff_eq]
  obtain rfl | hmore : n = 1 ∨ 1 < n := by omega
  · cases hu.symm.trans hn
    have hlen : 1 = (microOps s.firstCycle.opCode).length := by simpa using ht
    exact ⟨fun _ => by omega, fun _ => .inl hlen.symm⟩
  · have hnext := endsAt_iff_within hn hb h ht hmore hu
    have hne := opCodeCycle_ne_zero_within hn hb Nat.one_pos hmore hu
    have hlen : 1 ≠ (microOps s.firstCycle.opCode).length := by simpa using hne
    obtain ⟨i, nmi, d, ha⟩ := (microOps s.firstCycle.opCode).advance_eq 0 s.firstCycle false
    rw [ha, ahead.blind] at hnext
    rw [hnext]
    omega

end within

/-! The Ticks that poll, and those that do not. -/

/-- What an advance leaves in the latches and the detectors, where it polls when `P` holds (R136). -/
theorem Entry.advance_latches {e : Entry} {k : Nat} {q : State} {ended : Bool} {P : Prop} [Decidable P]
    (h : e.pollsAt k q ended = true ↔ P) :
    let t := e.advance k q ended
    t.irqLevelDetector = q.irqLevelDetector ∧
      (if P then t.irqSignal = q.irqLevelDetector ∧ t.nmiSignal = (q.nmiSignal || q.nmiEdgeDetector) ∧
        t.nmiEdgeDetector = false
       else t.irqSignal = q.irqSignal ∧ t.nmiSignal = q.nmiSignal ∧ t.nmiEdgeDetector = q.nmiEdgeDetector) := by
  intro t
  by_cases hP : P
  · rw [if_pos hP, show t = _ from e.advance_poll k q ended (h.2 hP)]
    exact ⟨rfl, rfl, rfl, rfl⟩
  · rw [if_neg hP, show t = _ from e.advance_quiet k q ended (Bool.eq_false_iff.2 fun hq => hP (h.1 hq))]
    exact ⟨rfl, rfl, rfl, rfl⟩

/-- c0 does not look at the detectors (R133). -/
theorem firstCycle_withDetectors {s : State} (hp : s.interruptPending = false) (line edge : Bool) :
    (s.withDetectors line edge).firstCycle = (s.fetchOpcode (s.peek s.pc)).withDetectors line edge := by
  rw [firstCycle_eq_fetchOpcode (s := s.withDetectors line edge) hp]
  rfl

/-- A Tick that dispatches an interrupt or runs its sequence never polls (R139), and the dispatch takes the NMI (R133). -/
theorem tick_interrupt_latches {s t : State} (ht : tick s = .next t)
    (hi : t.opCode = .irqSequence ∨ t.opCode = .nmiSequence) :
    t.irqLevelDetector = s.irqLevelDetector ∧ t.irqSignal = s.irqSignal ∧ t.nmiEdgeDetector = s.nmiEdgeDetector ∧
      t.nmiSignal = if s.opCodeCycle = 0 then false else s.nmiSignal := by
  obtain ⟨h0, -⟩ | ⟨h0, m, hm, rfl⟩ := tick_cases ht
  · rw [if_pos h0]
    cases hp : s.interruptPending with
    | true =>
      obtain rfl := Host.Outcome.next.inj ((tick_dispatch h0 hp).symm.trans ht)
      exact ⟨rfl, rfl, rfl, rfl⟩
    | false =>
      obtain rfl := Host.Outcome.next.inj ((tick_fetch h0 hp).symm.trans ht)
      rw [Entry.advance_opCode] at hi
      rcases hi with hi | hi <;> cases hi
  · have acts := microOps_good s.opCode m hm s
    rw [Entry.advance_opCode, acts.opCode] at hi
    have quiet : (microOps s.opCode).pollsAt s.opCodeCycle (m s).1 (m s).2 = false := by
      rcases hi with hi | hi <;> rw [hi] <;> rfl
    rw [if_neg h0, Entry.advance_quiet _ _ _ _ quiet]
    exact ⟨acts.irqLevelDetector, acts.irqSignal, acts.nmiEdgeDetector, acts.nmiSignal⟩

/-- Settles O16: from a boundary every Tick before the instruction's last is in the entry that c0 has fetched, and that
entry polls one Tick before its last; the interrupt sequences never poll. -/
theorem everyInstructionPollsInItsSecondToLastCycle : Obligations.EveryInstructionPollsInItsSecondToLastCycle := by
  refine ⟨fun s u t j line edge h hp hj hu ht => ?_, fun s t ht hi => tick_interrupt_latches ht hi⟩
  obtain ⟨v, hv, hlen⟩ := step_fetched h hp
  obtain ⟨hn, hend⟩ := ticks_of_step h hv
  rw [hlen] at hn
  generalize actualLength s.fetchInstr s = n at *
  have hc0 := firstCycle_eq_fetchOpcode hp
  have ahead : (microOps s.firstCycle.opCode).PollsAhead := by
    rw [hc0]
    exact (opcodeEntry_shape (s.peek s.pc)).pollsAhead
  match j with
  | 0 =>
    cases hu
    have hpoll := pollsAt_zero_iff_within hn hlen h hend ahead hj line edge
    cases (tick_boundary (s := s.withDetectors line edge) h).symm.trans ht
    rw [hc0] at hpoll
    rw [firstCycle_withDetectors hp]
    exact Entry.advance_latches (hpoll.trans (by omega))
  | k + 1 =>
    obtain ⟨ho, hc⟩ := cycle_within hn hlen h hj hu
    obtain ⟨m, hm, rfl⟩ := (tick_eq_next_iff (s := u.withDetectors line edge) hc).1 ht
    have acts := microOps_good u.opCode m (List.mem_of_getElem? hm) (u.withDetectors line edge)
    have hm' : (microOps s.firstCycle.opCode).cycles[k]? = some m := by rw [← ho]; exact hm
    have hpoll := pollsAt_iff_within hn hlen h hend ahead hj hu hm' line edge
    rw [← ho] at hpoll
    have latches := Entry.advance_latches (hpoll.trans (by omega : k + 3 = n ↔ k + 1 = n - 2))
    rw [acts.irqLevelDetector, acts.irqSignal, acts.nmiSignal, acts.nmiEdgeDetector] at latches
    exact latches

end Sys2Proof.Machine
end

section
/-! The rows of the opcode tables: a row as encoded runs the entry of its operand or mode, and what that entry answers shows
all that `Form.Runs` and `Form.Reads` ask. -/

namespace Sys2Proof.Machine

/-! The entries of the operand forms. -/

/-- The bytes of an instruction of the mode (R100). -/
def Mode.bytes : Mode → Nat
  | .abs _ | .absIndexed _ _ => 3
  | _ => 2

/-- The address cycles of the mode, as a write or an RMW runs them (R145 to R156). -/
def Mode.address : Mode → List MicroOp
  | .zp b => addrZp (.byte b)
  | .zpIndexed j b => addrZpIndexed (.byte b) j
  | .abs w => addrAbs (.word w)
  | .absIndexed j w => addrAbsIndexed (.word w) j
  | .izx b => addrIzx (.byte b)
  | .izy b => addrIzy (.byte b)

theorem Mode.reaches (m : Mode) (i : Instr) (s : State) :
    ∃ q, Reaches i m.address m s (BitVec.ofNat 16 m.bytes) q := by
  cases m with
  | zp b => exact ⟨_, reaches_zp i b s⟩
  | zpIndexed j b => exact ⟨_, reaches_zpIndexed i b j s⟩
  | abs w => exact ⟨_, reaches_abs i w s⟩
  | absIndexed j w => exact ⟨_, reaches_absIndexed i w j s⟩
  | izx b => exact ⟨_, reaches_izx i b s⟩
  | izy b => exact ⟨_, reaches_izy i b s⟩

/-- The bytes of an instruction with this operand (R100). -/
def Source.bytes : Source → Nat
  | .imm _ => 2
  | .mem m => m.bytes

/-- The cycles of a read of this operand with no page crossed (R169). -/
def Source.cycles : Source → Nat
  | .imm _ => 2
  | .mem m => m.reach + 1

/-- The entry of a read instruction with this operand and the operation `g` (R144 to R148, R152, R153). -/
def Source.entry : Source → ReadOp → Entry
  | .imm b, g => immediateSeq (.byte b) g
  | .mem (.absIndexed j w), g => readAbsIndexedSeq (.word w) j g
  | .mem (.izy b), g => readIzySeq (.byte b) g
  | .mem m, g => readSeq m.address g

theorem Source.trace_length (o : Source) (s : State) (i : Instr) :
    (o.trace s i).length = o.cycles + o.extra s i := by
  cases o with
  | imm b => rfl
  | mem m => rw [Source.trace_length_mem, Source.cycles, Source.extra]; omega

/-- The operation of a read instruction is applied to its operand, after its accesses. -/
theorem Source.run_entry (o : Source) (i : Instr) (s : State) {g : ReadOp} (hg : OpBlind g) :
    ∃ al ah q, runInstr (opcodeOf i) (o.entry g) s =
      .next (g (o.value s i)
        (s.progressed (opcodeOf i) (BitVec.ofNat 16 o.bytes) al ah q (o.trace s i))).settled := by
  match o with
  | .imm b => exact ⟨_, _, _, run_immediate i b s hg⟩
  | .mem (.zp b) => exact ⟨_, _, _, run_readSeq (reaches_zp i b s) rfl hg⟩
  | .mem (.zpIndexed j b) => exact ⟨_, _, _, run_readSeq (reaches_zpIndexed i b j s) rfl hg⟩
  | .mem (.abs w) => exact ⟨_, _, _, run_readSeq (reaches_abs i w s) rfl hg⟩
  | .mem (.absIndexed j w) => exact ⟨_, _, _, run_readAbsIndexed i w j s hg⟩
  | .mem (.izx b) => exact ⟨_, _, _, run_readSeq (reaches_izx i b s) rfl hg⟩
  | .mem (.izy b) => exact ⟨_, _, _, run_readIzy i b s hg⟩

/-! A row as encoded (R100, R106). -/

/-- The row's instruction has the row's opcode byte and length. -/
structure Form.Encodes (f : Form) : Prop where
  opcode : (encode f.instr).head? = some f.opcode
  bytes : (encode f.instr).length = f.bytes

theorem Form.Encodes.opcodeOf_eq {f : Form} (h : f.Encodes) : opcodeOf f.instr = f.opcode := by
  rw [opcodeOf, List.headD_eq_head?_getD, h.opcode, Option.getD_some]

theorem Form.Encodes.runs {f : Form} (h : f.Encodes) {s t : State} (hpc : t.pc = s.pc + BitVec.ofNat 16 f.bytes)
    (hb : t.bus.length = f.cycles) (ho : t.opCode = .op (opcodeOf f.instr)) (hc : Completes s t) : f.Runs s t :=
  ⟨⟨h.opcode, h.bytes, hb, by rw [ho, h.opcodeOf_eq]⟩, hpc, hc⟩

/-- The row is as encoded, and its instruction runs the entry of the operand `o` with the operation `g`. -/
structure Form.RunsRead (f : Form) (o : Source) (g : ReadOp) : Prop where
  encodes : f.Encodes
  bytes : f.bytes = o.bytes
  cycles : f.cycles = o.cycles
  runs : ∀ s, exec f.instr s = runInstr (opcodeOf f.instr) (o.entry g) s

/-- The row is as encoded, and its instruction stores `v` by the address cycles of the mode `m`. -/
structure Form.RunsWrite (f : Form) (m : Mode) (v : State → Byte) : Prop where
  encodes : f.Encodes
  bytes : f.bytes = m.bytes
  cycles : ∀ s, (m.leads s f.instr).length + 1 = f.cycles
  runs : ∀ s, exec f.instr s = runInstr (opcodeOf f.instr) (writeSeq m.address v) s

/-- The row is as encoded, and its instruction runs the implied entry with the operation `g`. -/
structure Form.RunsImplied (f : Form) (g : State → State) : Prop where
  encodes : f.Encodes
  bytes : f.bytes = 1
  cycles : f.cycles = 2
  runs : ∀ s, exec f.instr s = runInstr (opcodeOf f.instr) (impliedSeq g) s

/-- A read instruction applies its operation to its operand, from a state with the registers and flags of `s`. -/
theorem Form.RunsRead.reads {f : Form} {o : Source} {g : ReadOp} (h : f.RunsRead o g) (hb : OpBlind g)
    (hk : g.KeepsRest) (s : State) :
    ∃ n al ah q l, let t := (g (o.value s f.instr) (s.progressed f.opcode n al ah q l)).settled
      exec f.instr s = .next t ∧ f.Reads o s t := by
  obtain ⟨al, ah, q, hrun⟩ := o.run_entry f.instr s hb
  rw [← h.bytes] at hrun
  obtain ⟨hpc, hbus, hop, hc, hp, -⟩ := (hk (o.value s f.instr)
    (s.progressed (opcodeOf f.instr) (BitVec.ofNat 16 f.bytes) al ah q (o.trace s f.instr))).ends
  have longer : (f.longer (o.extra s f.instr)).Encodes := ⟨h.encodes.opcode, h.encodes.bytes⟩
  have hlen : (o.trace s f.instr).length = f.cycles + o.extra s f.instr := by rw [o.trace_length, h.cycles]
  rw [← h.encodes.opcodeOf_eq]
  exact ⟨_, al, ah, q, _, (h.runs s).trans hrun, longer.runs hpc ((congrArg _ hbus).trans hlen) hop hc,
    keepsMemory_of (hp.trans (Source.after_trace o s f.instr))⟩

/-- An implied instruction applies its operation, and leaves memory and the scratch registers alone. -/
theorem Form.RunsImplied.completes {f : Form} {g : State → State} (h : f.RunsImplied g) (hb : LatchBlind g)
    (hk : ∀ p, KeepsRest p (g p)) (s : State) :
    let t := (g (s.implied f.instr)).settled
    exec f.instr s = .next t ∧ f.Runs s t ∧ KeepsMemory s t ∧ KeepsScratch s t := by
  obtain ⟨hpc, hbus, hop, hc, hp, hal, hah, hq⟩ := (hk (s.implied f.instr)).ends
  refine ⟨(h.runs s).trans (run_implied f.instr s hb), h.encodes.runs ?_ ?_ hop hc, keepsMemory_of hp, hal, hah, hq⟩
  · rw [h.bytes]; exact hpc
  · rw [h.cycles, hbus]; rfl

end Sys2Proof.Machine
end

section
/-! The family of 41_load_store_transfer.md: loads, stores and transfers (R180 to R191), and SAX (R335). -/

namespace Sys2Proof.Machine

/-! The registers of a program. -/

section registers
variable (r r' : Register) (v : Byte) (s : State) (g : Flag)

/-- The register `r` loaded with `v`. -/
def Register.set (r : Register) (v : Byte) (s : State) : State :=
  match r with
  | .a => { s with a := v }
  | .x => { s with x := v }
  | .y => { s with y := v }
  | .s => { s with sp := v }

theorem Register.value_set : r'.value (r.set v s) = if r' = r then v else r'.value s := by
  cases r <;> cases r' <;> rfl

@[simp] theorem Register.flag_set : (r.set v s).flag g = s.flag g := by cases r <;> rfl
@[simp] theorem Register.value_setZN : r.value (s.setZN v) = r.value s := by cases r <;> rfl
@[simp] theorem Register.value_settled : r.value s.settled = r.value s := by cases r <;> rfl
theorem Register.value_withLatches (i n e : Bool) (k : Nat) : r.value (s.withLatches i n e k) = r.value s := by
  cases r <;> rfl

/-- `r <- v; SetZN(v)`, the operation of LDA, LDX and LDY on their operand (R180 to R182). -/
def Register.load (r : Register) : ReadOp := fun v s => (r.set v s).setZN v

theorem Register.blind_load : OpBlind r.load := by
  intro v
  cases r <;> exact blind_of_rfl (fun _ _ _ _ _ => rfl) fun _ => rfl

theorem Register.keepsRest_load : r.load.KeepsRest := by
  intro v s
  cases r <;> exact .of_eq _ _ _ _ _ rfl

/-- `dst <- src; SetZN(src)`, the operation of the transfers but TXS (R186 to R190). -/
def Register.transfer (src dst : Register) : State → State := fun s => dst.load (src.value s) s

theorem Register.blind_transfer : LatchBlind (r.transfer r') where
  commutes s i n e k := by
    rw [Register.transfer, Register.value_withLatches]
    exact (r'.blind_load _).commutes s i n e k
  line s := (r'.blind_load _).line s

/-- The registers stay while an instruction makes its accesses. -/
theorem Register.value_progressed (op : Byte) (n : Addr) (al ah q : Byte) (l : List BusAccess) :
    r.value (s.progressed op n al ah q l) = r.value s := by cases r <;> rfl

/-- So do the flags. -/
theorem State.progressed_changesOnly (op : Byte) (n : Addr) (al ah q : Byte) (l : List BusAccess) :
    ChangesOnly [] [] s (s.progressed op n al ah q l) := ⟨fun r _ => r.value_progressed .., fun _ _ => rfl⟩

/-- A load at the end of an instruction changes its register, N and Z alone. -/
theorem Register.load_ends {p : State} (h : ChangesOnly [] [] s p) :
    let t := (r.load v p).settled
    r.value t = v ∧ SetsZN v t ∧ ChangesOnly [r] [.z, .n] s t := by
  obtain ⟨hr, hf⟩ := h
  refine ⟨?_, ⟨?_, ?_⟩, fun r' h' => ?_, fun g hg => ?_⟩
  · simp [Register.load, Register.value_set]
  · simp [Register.load]
  · simp [Register.load]
  · have hne : r' ≠ r := by simpa using h'
    simpa [Register.load, Register.value_set, hne] using hr r' List.not_mem_nil
  · have hne : g ≠ .z ∧ g ≠ .n := by simpa using hg
    simpa [Register.load, hne] using hf g List.not_mem_nil

/-- A register set at the end of an instruction, no flag changed. -/
theorem Register.set_ends {p : State} (h : ChangesOnly [] [] s p) :
    let t := (r.set v p).settled
    r.value t = v ∧ ChangesOnly [r] [] s t := by
  obtain ⟨hr, hf⟩ := h
  refine ⟨by simp [Register.value_set], fun r' h' => ?_, fun g hg => ?_⟩
  · have hne : r' ≠ r := by simpa using h'
    simpa [Register.value_set, hne] using hr r' List.not_mem_nil
  · simpa using hf g hg

end registers

/-! Loads (R180 to R182). -/

section rows
variable (b : Byte) (w : Addr) {f : Form}

/-- Every row of LDA, LDX and LDY runs the read entry of its operand. -/
theorem runsRead_loadForms :
    (∀ f o, (f, o) ∈ ldaForms b w → f.RunsRead o (Register.load .a)) ∧
    (∀ f o, (f, o) ∈ ldxForms b w → f.RunsRead o (Register.load .x)) ∧
    ∀ f o, (f, o) ∈ ldyForms b w → f.RunsRead o (Register.load .y) := by
  refine ⟨fun f o h => ?_, fun f o h => ?_, fun f o h => ?_⟩
  all_goals fin_cases h <;> exact ⟨⟨rfl, rfl⟩, rfl, rfl, fun _ => rfl⟩

/-- A row that loads the register `r` with its operand. -/
theorem Form.RunsRead.loads {o : Source} {r : Register} (h : f.RunsRead o r.load) (s : State) :
    let v := o.value s f.instr
    ∃ t, exec f.instr s = .next t ∧ f.Reads o s t ∧ r.value t = v ∧ SetsZN v t ∧ ChangesOnly [r] [.z, .n] s t := by
  obtain ⟨n, al, ah, q, l, ht, hr⟩ := h.reads r.blind_load r.keepsRest_load s
  exact ⟨_, ht, hr, r.load_ends _ s (s.progressed_changesOnly f.opcode n al ah q l)⟩

/-! Stores (R183 to R185, R335). -/

/-- A byte to store that the registers alone determine. -/
def OfRegisters (v : State → Byte) : Prop := ∀ s t, (∀ r : Register, r.value t = r.value s) → v t = v s

theorem OfRegisters.blind {v : State → Byte} (h : OfRegisters v) : ValueBlind v := fun s i n e k =>
  h s _ fun r => r.value_withLatches s i n e k

theorem ofRegisters_valueSta : OfRegisters valueSta := fun _ _ h => h .a
theorem ofRegisters_valueStx : OfRegisters valueStx := fun _ _ h => h .x
theorem ofRegisters_valueSty : OfRegisters valueSty := fun _ _ h => h .y
theorem ofRegisters_valueSax : OfRegisters valueSax := fun _ _ h => congrArg₂ (· &&& ·) (h .a) (h .x)

/-- Every row of STA, STX, STY and SAX runs the write entry of its mode. -/
theorem runsWrite_storeForms :
    (∀ f m, (f, m) ∈ staForms b w → f.RunsWrite m valueSta) ∧
    (∀ f m, (f, m) ∈ stxForms b w → f.RunsWrite m valueStx) ∧
    (∀ f m, (f, m) ∈ styForms b w → f.RunsWrite m valueSty) ∧
    ∀ f m, (f, m) ∈ saxForms b w → f.RunsWrite m valueSax := by
  refine ⟨fun f m h => ?_, fun f m h => ?_, fun f m h => ?_, fun f m h => ?_⟩
  all_goals fin_cases h <;> exact ⟨⟨rfl, rfl⟩, rfl, fun _ => rfl, fun _ => rfl⟩

/-- A row that stores a byte of the registers at its effective address. -/
theorem Form.RunsWrite.stores {m : Mode} {v : State → Byte} (h : f.RunsWrite m v) (hv : OfRegisters v) (s : State) :
    ∃ t, exec f.instr s = .next t ∧ f.Runs s t ∧ StoresByte (m.ea s f.instr) (v s) s t ∧ ChangesOnly [] [] s t := by
  obtain ⟨q, hm⟩ := m.reaches f.instr s
  rw [← h.bytes] at hm
  have hrun := (h.runs s).trans (run_writeSeq hm hv.blind)
  rw [hv s _ fun r => r.value_progressed ..] at hrun
  obtain ⟨hpc, hlen, hop, hc, hw⟩ := write_ends (op := opcodeOf f.instr) (al := lo8 (m.ea s f.instr))
    (ah := hi8 (m.ea s f.instr)) (o := q) (n := BitVec.ofNat 16 f.bytes) (Mode.after_leads m s f.instr)
    (m.ea s f.instr) (v s)
  exact ⟨_, hrun, h.encodes.runs hpc (hlen.trans (h.cycles s)) hop hc, hw,
    fun r _ => (r.value_settled _).trans (r.value_progressed ..), fun _ _ => rfl⟩

/-! Transfers (R186 to R191). -/

/-- Each row copies one register to its destination. -/
theorem runsImplied_transferForms (s : State) :
    ∀ r ∈ transferForms s, ∃ src : Register, r.1.RunsImplied (src.transfer r.2.2) ∧ r.2.1 = src.value s := by
  intro r h
  fin_cases h
  · exact ⟨.a, ⟨⟨rfl, rfl⟩, rfl, rfl, fun _ => rfl⟩, rfl⟩
  · exact ⟨.a, ⟨⟨rfl, rfl⟩, rfl, rfl, fun _ => rfl⟩, rfl⟩
  · exact ⟨.x, ⟨⟨rfl, rfl⟩, rfl, rfl, fun _ => rfl⟩, rfl⟩
  · exact ⟨.y, ⟨⟨rfl, rfl⟩, rfl, rfl, fun _ => rfl⟩, rfl⟩
  · exact ⟨.s, ⟨⟨rfl, rfl⟩, rfl, rfl, fun _ => rfl⟩, rfl⟩

theorem runsImplied_txs : (⟨.txs, 0x9A, 1, 2⟩ : Form).RunsImplied opTxs :=
  ⟨⟨rfl, rfl⟩, rfl, rfl, fun _ => rfl⟩

/-- A row that copies the register `src` to `dst`, with N and Z from it. -/
theorem Form.RunsImplied.transfers {src dst : Register} (h : f.RunsImplied (src.transfer dst)) (s : State) :
    let v := src.value s
    ∃ t, exec f.instr s = .next t ∧ f.Runs s t ∧ dst.value t = v ∧ SetsZN v t ∧ ChangesOnly [dst] [.z, .n] s t ∧
      KeepsMemory s t ∧ KeepsScratch s t := by
  obtain ⟨ht, hruns, hmem, hscratch⟩ := h.completes (src.blind_transfer dst) (fun p => dst.keepsRest_load _ p) s
  have hp := s.progressed_changesOnly (opcodeOf f.instr) 1 s.al s.ah s.operand (fetchImplied s f.instr)
  have hload : src.transfer dst (s.implied f.instr) = dst.load (src.value s) (s.implied f.instr) :=
    congrArg (dst.load · _) (src.value_progressed ..)
  rw [hload] at ht hruns hmem hscratch
  obtain ⟨hval, hzn, honly⟩ := dst.load_ends (src.value s) s hp
  exact ⟨_, ht, hruns, hval, hzn, honly, hmem, hscratch⟩

end rows

/-! The obligations. -/

/-- Settles O22: every row of the three tables runs the read entry of its operand with the register's load. -/
theorem loadsPutTheirOperandIntoTheRegister : Obligations.LoadsPutTheirOperandIntoTheRegister := by
  intro s b w
  obtain ⟨lda, ldx, ldy⟩ := runsRead_loadForms b w
  exact ⟨fun f o h => (lda f o h).loads s, fun f o h => (ldx f o h).loads s, fun f o h => (ldy f o h).loads s⟩

/-- Settles O23: every row of the four tables runs the write entry of its mode, and the stored byte depends on the registers
alone, which the address cycles keep. -/
theorem storesWriteTheirByteAtTheEffectiveAddress : Obligations.StoresWriteTheirByteAtTheEffectiveAddress := by
  intro s b w
  obtain ⟨sta, stx, sty, sax⟩ := runsWrite_storeForms b w
  exact ⟨fun f m h => (sta f m h).stores ofRegisters_valueSta s, fun f m h => (stx f m h).stores ofRegisters_valueStx s,
    fun f m h => (sty f m h).stores ofRegisters_valueSty s, fun f m h => (sax f m h).stores ofRegisters_valueSax s⟩

/-- Settles O24: each of the five rows loads its destination with its source, and TXS sets S and no flag. -/
theorem transfersCopyARegister : Obligations.TransfersCopyARegister := by
  refine fun s => ⟨fun r hr => ?_, ?_⟩
  · obtain ⟨src, hrow, hv⟩ := runsImplied_transferForms s r hr
    rw [hv]
    exact hrow.transfers s
  · obtain ⟨ht, hruns, hmem, hscratch⟩ := runsImplied_txs.completes blind_opTxs keepsRest_opTxs s
    obtain ⟨hval, honly⟩ := Register.set_ends .s s.x s
      (s.progressed_changesOnly (opcodeOf .txs) 1 s.al s.ah s.operand (fetchImplied s .txs))
    exact ⟨_, ht, hruns, hval, honly, hmem, hscratch⟩

end Sys2Proof.Machine
end

section
/-! The family of 42_alu.md: addition, subtraction, logic, BIT and the compares (R200 to R213), and USBC (R345). -/

namespace Sys2Proof.Machine

/-! What each operation leaves at the end of an instruction, from a state `p` with the registers and flags of `s`. -/

@[simp] theorem Register.value_setFlag (r : Register) (s : State) (f : Flag) (v : Bool) :
    r.value (s.setFlag f v) = r.value s := by cases r <;> rfl
@[simp] theorem Register.value_compare (r : Register) (s : State) (q v : Byte) :
    r.value (s.compare q v) = r.value s := by cases r <;> rfl

/-- `t` has the result `r` in A and in the four flags, and every other register and flag as in `s`. -/
structure AluResult.Ends (r : AluResult) (s t : State) : Prop where
  value : t.a = r.value
  n : t.flag .n = r.n
  v : t.flag .v = r.v
  z : t.flag .z = r.z
  c : t.flag .c = r.c
  changesOnly : ChangesOnly [.a] [.n, .v, .z, .c] s t

section ends
variable {s p : State}

theorem State.setAlu_ends (h : ChangesOnly [] [] s p) (r : AluResult) : r.Ends s (p.setAlu r).settled := by
  obtain ⟨hr, hf⟩ := h
  refine ⟨rfl, by simp, by simp, by simp, by simp, fun r' h' => ?_, fun g hg => ?_⟩
  · rw [← hr r' List.not_mem_nil]
    cases r' <;> simp_all [Register.value]
  · rw [← hf g List.not_mem_nil]
    cases g <;> simp_all

/-- A compare sets C, Z and N, and changes nothing else (R210). -/
theorem State.compare_ends (h : ChangesOnly [] [] s p) (r v : Byte) :
    let t := (p.compare r v).settled
    Compares r v t ∧ ChangesOnly [] [.c, .z, .n] s t := by
  obtain ⟨hr, hf⟩ := h
  refine ⟨⟨by simp, by simp, by simp⟩, fun r' h' => by simpa using hr r' h', fun g hg => ?_⟩
  rw [← hf g List.not_mem_nil]
  cases g <;> simp_all

/-- BIT sets Z from A and the operand, N and V from the operand, and changes nothing else (R209). -/
theorem opBit_ends (h : ChangesOnly [] [] s p) (v : Byte) :
    let t := (opBit v p).settled
    t.flag .z = (s.a &&& v == 0) ∧ t.flag .n = v.getLsbD 7 ∧ t.flag .v = v.getLsbD 6 ∧
      ChangesOnly [] [.z, .n, .v] s t := by
  obtain ⟨hr, hf⟩ := h
  have ha : p.a = s.a := hr .a List.not_mem_nil
  refine ⟨by simp [opBit, ha], by simp [opBit], by simp [opBit], fun r h => by simpa [opBit] using hr r h,
    fun g hg => ?_⟩
  rw [← hf g List.not_mem_nil]
  cases g <;> simp_all [opBit]

end ends

/-- A row that runs the read entry of its operand with the operation `g` reads as it should, and its end has whatever
`g` gives on that operand from every state with the registers and flags of `s`. -/
theorem Form.RunsRead.completes {f : Form} {o : Source} {g : ReadOp} (h : f.RunsRead o g) (hb : OpBlind g)
    (hk : g.KeepsRest) {s : State} {Q : State → Prop}
    (hQ : ∀ op n al ah q l, Q (g (o.value s f.instr) (s.progressed op n al ah q l)).settled) :
    ∃ t, exec f.instr s = .next t ∧ f.Reads o s t ∧ Q t := by
  obtain ⟨n, al, ah, q, l, ht, hr⟩ := h.reads hb hk s
  exact ⟨_, ht, hr, hQ _ n al ah q l⟩

section rows
variable (b : Byte) (w : Addr)

theorem runsRead_adcForms : ∀ f o, (f, o) ∈ adcForms b w → f.RunsRead o opAdc := by
  intro f o h
  fin_cases h <;> exact ⟨⟨rfl, rfl⟩, rfl, rfl, fun _ => rfl⟩

theorem runsRead_sbcForms : ∀ f o, (f, o) ∈ sbcForms b w → f.RunsRead o opSbc := by
  intro f o h
  fin_cases h <;> exact ⟨⟨rfl, rfl⟩, rfl, rfl, fun _ => rfl⟩

theorem runsRead_bitForms : ∀ f o, (f, o) ∈ bitForms b w → f.RunsRead o opBit := by
  intro f o h
  fin_cases h <;> exact ⟨⟨rfl, rfl⟩, rfl, rfl, fun _ => rfl⟩

theorem runsRead_logicForms :
    (∀ f o, (f, o) ∈ andForms b w → f.RunsRead o opAnd) ∧
    (∀ f o, (f, o) ∈ oraForms b w → f.RunsRead o opOra) ∧
    ∀ f o, (f, o) ∈ eorForms b w → f.RunsRead o opEor := by
  refine ⟨fun f o h => ?_, fun f o h => ?_, fun f o h => ?_⟩
  all_goals fin_cases h <;> exact ⟨⟨rfl, rfl⟩, rfl, rfl, fun _ => rfl⟩

theorem runsRead_compareForms :
    (∀ f o, (f, o) ∈ cmpForms b w → f.RunsRead o opCmp) ∧
    (∀ f o, (f, o) ∈ cpxForms b w → f.RunsRead o opCpx) ∧
    ∀ f o, (f, o) ∈ cpyForms b w → f.RunsRead o opCpy := by
  refine ⟨fun f o h => ?_, fun f o h => ?_, fun f o h => ?_⟩
  all_goals fin_cases h <;> exact ⟨⟨rfl, rfl⟩, rfl, rfl, fun _ => rfl⟩

end rows

/-! ADC and SBC, where the decimal mode decides between two results. -/

/-- A row of ADC ends with the result that ADD chooses (R200). -/
theorem Form.RunsRead.adds {f : Form} {o : Source} (h : f.RunsRead o opAdc) (s : State) :
    let v := o.value s f.instr
    let r := if s.decimal then addDecimal s.a v (s.flag .c) else addBinary s.a v (s.flag .c)
    ∃ t, exec f.instr s = .next t ∧ f.Reads o s t ∧ r.Ends s t :=
  h.completes blind_opAdc keepsRest_opAdc fun op n al ah q l =>
    State.setAlu_ends (s.progressed_changesOnly op n al ah q l) _

/-- A row of SBC ends with the result that SUB chooses (R203). -/
theorem Form.RunsRead.subtracts {f : Form} {o : Source} (h : f.RunsRead o opSbc) (s : State) :
    let v := o.value s f.instr
    let r := if s.decimal then subDecimal s.a v (s.flag .c) else subBinary s.a v (s.flag .c)
    ∃ t, exec f.instr s = .next t ∧ f.Reads o s t ∧ r.Ends s t :=
  h.completes blind_opSbc keepsRest_opSbc fun op n al ah q l =>
    State.setAlu_ends (s.progressed_changesOnly op n al ah q l) _

/-! The two identities of R201 and R204. -/

/-- The mask of the overflow formulas keeps the sign bit. -/
theorem and_signMask_ne_zero (x : Byte) : ((x &&& 0x80) != 0) = x.msb := by
  rw [show (0x80 : Byte) = BitVec.twoPow 8 7 from rfl, BitVec.and_twoPow, BitVec.msb_eq_getLsbD_last]
  cases x.getLsbD 7 <;> rfl

/-- R201's V: the operands have one sign and the sum the other. -/
theorem addBinary_v_iff_signs (a v : Byte) (c : Bool) :
    (addBinary a v c).v = true ↔ a.msb = v.msb ∧ a.msb ≠ (addBinary a v c).value.msb := by
  show ((_ &&& 0x80 : Byte) != 0) = true ↔ _
  rw [and_signMask_ne_zero, BitVec.msb_and, BitVec.msb_not, BitVec.msb_xor, BitVec.msb_xor, Bool.and_eq_true,
    Bool.xor_iff_ne]
  simp [addBinary]

/-- R204's V: the operands differ in sign, and the difference has not the sign of A. -/
theorem subBinary_v_iff_signs (a v : Byte) (c : Bool) :
    (subBinary a v c).v = true ↔ a.msb ≠ v.msb ∧ a.msb ≠ (subBinary a v c).value.msb := by
  show ((_ &&& 0x80 : Byte) != 0) = true ↔ _
  rw [and_signMask_ne_zero, BitVec.msb_and, BitVec.msb_xor, BitVec.msb_xor, Bool.and_eq_true, Bool.xor_iff_ne,
    Bool.xor_iff_ne]
  rfl

theorem addBinary_value_toInt (a v : Byte) (c : Bool) :
    (addBinary a v c).value.toInt = (a.toInt + v.toInt + c.toNat).bmod 256 := by
  have hsum : (addBinary a v c).value = a + v + BitVec.ofNat 8 c.toNat := by
    rw [addBinary, BitVec.ofNat_add, BitVec.ofNat_add, BitVec.ofNat_toNat, BitVec.ofNat_toNat, BitVec.setWidth_eq,
      BitVec.setWidth_eq]
  have hc : (BitVec.ofNat 8 c.toNat).toInt = c.toNat := by cases c <;> rfl
  rw [hsum, BitVec.toInt_add, BitVec.toInt_add, hc, Int.bmod_add_bmod]

/-- The sum's sign is the wrong one exactly where the signed sum does not fit a byte. -/
theorem addBinary_v_iff_overflow (a v : Byte) (c : Bool) :
    (addBinary a v c).v = true ↔ a.toInt + v.toInt + c.toNat < -128 ∨ 127 < a.toInt + v.toInt + c.toNat := by
  have hr := addBinary_value_toInt a v c
  have ha : -128 ≤ a.toInt ∧ a.toInt < 128 := ⟨a.le_toInt, a.toInt_lt⟩
  have hv : -128 ≤ v.toInt ∧ v.toInt < 128 := ⟨v.le_toInt, v.toInt_lt⟩
  have hc := c.toNat_le
  simp only [addBinary_v_iff_signs, BitVec.msb_eq_toInt, ne_eq, decide_eq_decide]
  rw [Int.bmod_def] at hr
  split at hr <;> omega

/-- `A - v - (1 - C)` and `A + ~v + C` are the same byte. -/
theorem subBinary_value_eq (a v : Byte) (c : Bool) :
    (subBinary a v c).value = (addBinary a (~~~v) c).value := by
  apply BitVec.eq_of_toNat_eq
  have := v.isLt
  simp only [subBinary, addBinary, BitVec.toNat_ofInt, BitVec.toNat_ofNat, BitVec.toNat_not]
  omega

theorem subBinary_eq_addBinary_not (a v : Byte) (c : Bool) : subBinary a v c = addBinary a (~~~v) c := by
  have hval := subBinary_value_eq a v c
  have hn : (subBinary a v c).n = (addBinary a (~~~v) c).n := congrArg (·.getLsbD 7) hval
  have hz : (subBinary a v c).z = (addBinary a (~~~v) c).z := congrArg (· == 0) hval
  have hv : (subBinary a v c).v = (addBinary a (~~~v) c).v := by
    rw [Bool.eq_iff_iff, subBinary_v_iff_signs, addBinary_v_iff_signs, hval, BitVec.msb_not]
    simp [Bool.eq_not]
  have hc : (subBinary a v c).c = (addBinary a (~~~v) c).c := by
    have := v.isLt
    simp only [subBinary, addBinary, BitVec.toNat_not, decide_eq_decide]
    omega
  exact (AluResult.mk.injEq ..).mpr ⟨hval, hn, hv, hz, hc⟩

/-! The obligations. -/

/-- Settles O25: outside decimal mode ADD chooses the binary sum. -/
theorem adcAddsInBinary : Obligations.AdcAddsInBinary := by
  intro s b w hd f o hf
  obtain ⟨t, ht, hr, he⟩ := (runsRead_adcForms b w f o hf).adds s
  rw [State.decimal, hd] at he
  exact ⟨t, ht, hr, ⟨he.value, he.c, he.v, he.z, he.n⟩, he.changesOnly⟩

/-- Settles O26: in decimal mode ADD chooses the nibble-wise sum. -/
theorem adcAddsInDecimal : Obligations.AdcAddsInDecimal := by
  intro s b w hd f o hf
  obtain ⟨t, ht, hr, he⟩ := (runsRead_adcForms b w f o hf).adds s
  rw [State.decimal, hd] at he
  exact ⟨t, ht, hr, ⟨he.value, he.c, he.z, he.n, he.v⟩, he.changesOnly⟩

/-- Settles O27: outside decimal mode SUB chooses the binary difference. -/
theorem sbcSubtractsInBinary : Obligations.SbcSubtractsInBinary := by
  intro s b w hd f o hf
  obtain ⟨t, ht, hr, he⟩ := (runsRead_sbcForms b w f o hf).subtracts s
  rw [State.decimal, hd] at he
  exact ⟨t, ht, hr, ⟨he.value, he.c, he.v, he.z, he.n⟩, he.changesOnly⟩

/-- Settles O28: in decimal mode SUB chooses the nibble-wise difference, with the flags of the binary one. -/
theorem sbcSubtractsInDecimal : Obligations.SbcSubtractsInDecimal := by
  intro s b w hd f o hf
  obtain ⟨t, ht, hr, he⟩ := (runsRead_sbcForms b w f o hf).subtracts s
  rw [State.decimal, hd] at he
  exact ⟨t, ht, hr, ⟨he.value, he.c, he.v, he.z, he.n⟩, he.changesOnly⟩

/-- Settles O29: each row loads A with its combination of A and the operand. -/
theorem logicCombinesAWithTheOperand : Obligations.LogicCombinesAWithTheOperand := by
  intro s b w
  obtain ⟨and, ora, eor⟩ := runsRead_logicForms b w
  refine ⟨fun f o h => (and f o h).completes blind_opAnd keepsRest_opAnd fun op n al ah q l => ?_,
    fun f o h => (ora f o h).completes blind_opOra keepsRest_opOra fun op n al ah q l => ?_,
    fun f o h => (eor f o h).completes blind_opEor keepsRest_opEor fun op n al ah q l => ?_⟩
  all_goals exact Register.load_ends .a _ s (s.progressed_changesOnly op n al ah q l)

/-- Settles O30: both rows run the read entry of their operand with BIT's operation. -/
theorem bitTestsTheOperand : Obligations.BitTestsTheOperand := fun s b w f o h =>
  (runsRead_bitForms b w f o h).completes blind_opBit keepsRest_opBit fun op n al ah q l =>
    opBit_ends (s.progressed_changesOnly op n al ah q l) _

/-- Settles O31: every row runs the read entry of its operand with the compare of its register. -/
theorem comparesSetCarryZeroNegative : Obligations.ComparesSetCarryZeroNegative := by
  intro s b w
  obtain ⟨cmp, cpx, cpy⟩ := runsRead_compareForms b w
  refine ⟨fun f o h => (cmp f o h).completes blind_opCmp keepsRest_opCmp fun op n al ah q l => ?_,
    fun f o h => (cpx f o h).completes blind_opCpx keepsRest_opCpx fun op n al ah q l => ?_,
    fun f o h => (cpy f o h).completes blind_opCpy keepsRest_opCpy fun op n al ah q l => ?_⟩
  all_goals exact State.compare_ends (s.progressed_changesOnly op n al ah q l) _ _

/-- Settles O59: the sum's sign is the wrong one exactly on signed overflow, and `A - v - (1 - C)` is `A + ~v + C` up to
256, which is the carry. -/
theorem signedOverflowAndComplement : Obligations.SignedOverflowAndComplement := fun a v c =>
  ⟨by rw [Bool.eq_iff_iff, addBinary_v_iff_overflow, decide_eq_true_iff], subBinary_eq_addBinary_not a v c⟩

end Sys2Proof.Machine
end

section
/-! The family of 43_shift_incdec.md: shifts, rotates, increments and decrements (R240 to R254). -/

namespace Sys2Proof.Machine

/-! A row that modifies a byte of memory (R156). -/

/-- The row is as encoded, and its instruction modifies by `g` the byte that the address cycles of the mode `m` reach. -/
structure Form.RunsModify (f : Form) (m : Mode) (g : Modify) : Prop where
  encodes : f.Encodes
  bytes : f.bytes = m.bytes
  cycles : ∀ s, (m.leads s f.instr).length + 3 = f.cycles
  runs : ∀ s, exec f.instr s = runInstr (opcodeOf f.instr) (rmwSeq m.address g) s

/-- A row that modifies the byte at its effective address writes it back and then the result `r`, and its end has whatever
the modification's effect gives from every state with the registers and flags of `s`. -/
theorem Form.RunsModify.modifies {f : Form} {m : Mode} {g : Modify} (h : f.RunsModify m g) (hb : ModifyBlind g)
    (hk : ∀ v p, KeepsRest p (g v p).2) {s : State} {r : Byte} {Q : State → Prop}
    (hr : ∀ op n al ah q l, (g (m.modified s f.instr) (s.progressed op n al ah q l)).1 = r)
    (hQ : ∀ op n al ah q l ea,
      Q ((g (m.modified s f.instr) (s.progressed op n al ah q l)).2.rmwWritten ea r).settled) :
    ∃ t, exec f.instr s = .next t ∧ f.Runs s t ∧ ModifiesByte m f.instr r s t ∧ Q t := by
  obtain ⟨q, hm⟩ := m.reaches f.instr s
  rw [← h.bytes] at hm
  have hrun := (h.runs s).trans (run_rmwSeq hm hb)
  rw [hr] at hrun
  obtain ⟨hpc, hbus, hop, hc, hw, -⟩ := (hk (m.modified s f.instr) (rmwRead f.instr m s _)).rmw_ends r
  have hlen := congrArg List.length hbus
  rw [List.length_append, Mode.rmwLeads_length] at hlen
  exact ⟨_, hrun, h.encodes.runs hpc (hlen.trans (h.cycles s)) hop hc, hw, hQ ..⟩

section ends
variable {s p : State} {rs : List Register} {fs : List Flag}

/-- The last cycle of a modification leaves the registers and flags. -/
theorem changesOnly_rmwWritten (h : ChangesOnly rs fs s p) (ea : Addr) (r : Byte) :
    ChangesOnly rs fs s (p.rmwWritten ea r).settled := by
  obtain ⟨hr, hf⟩ := h
  refine ⟨fun r' h' => ?_, hf⟩
  rw [← hr r' h']
  cases r' <;> rfl

/-- The end of an accumulator instruction sets A, and leaves the flags. -/
theorem changesOnly_withA (h : ChangesOnly [] fs s p) (r : Byte) : ChangesOnly [.a] fs s (p.withA r).settled := by
  obtain ⟨hr, hf⟩ := h
  refine ⟨fun r' h' => ?_, hf⟩
  rw [← hr r' List.not_mem_nil]
  cases r' with
  | a => exact absurd (List.mem_singleton_self _) h'
  | x | y | s => rfl

/-- A modification whose effect is SetZN changes Z and N alone (R7). -/
theorem setZN_rmwWritten_ends (h : ChangesOnly [] [] s p) (v : Byte) (ea : Addr) (r : Byte) :
    let t := ((p.setZN v).rmwWritten ea r).settled
    SetsZN v t ∧ ChangesOnly [] [.z, .n] s t := by
  obtain ⟨hr, hf⟩ := h
  refine ⟨⟨by simp, by simp⟩, changesOnly_rmwWritten ⟨fun r h => by simpa using hr r h, fun g hg => ?_⟩ ea r⟩
  have hne : g ≠ .z ∧ g ≠ .n := by simpa using hg
  simpa [hne] using hf g List.not_mem_nil

end ends

/-! The shift primitives (R240). -/

/-- A bit put into a byte that has it clear. -/
theorem putBit_of_clear {p : Byte} {i : Nat} (h : p.getLsbD i = false) (c : Bool) :
    putBit p i c = p ||| (if c then 1#8 <<< i else 0#8) := by
  cases c with
  | true => rfl
  | false =>
    refine byte_ext fun j hj => ?_
    rw [putBit_getLsbD p i j false hj]
    by_cases hij : i = j
    · simp [← hij, h]
    · simp [hij]

namespace Shift
variable (k : Shift) (v : Byte)

/-- The model's primitive of this name. -/
def modify : Shift → Modify
  | .asl => aslByte
  | .lsr => lsrByte
  | .rol => rolByte
  | .ror => rorByte

/-- Each primitive gives the result column of R240, and sets C, Z and N. -/
theorem modify_eq (s : State) :
    k.modify v s = (k.result v (s.flag .c), (s.setFlag .c (k.carry v)).setZN (k.result v (s.flag .c))) := by
  have hrol : putBit (v <<< 1) 0 (s.flag .c) = result .rol v (s.flag .c) := putBit_of_clear (by simp) _
  have hror : putBit (v >>> 1) 7 (s.flag .c) = result .ror v (s.flag .c) := putBit_of_clear (by simp) _
  cases k with
  | asl => rfl
  | lsr => rfl
  | rol => rw [← hrol]; rfl
  | ror => rw [← hror]; rfl

theorem blind_modify : ModifyBlind k.modify := by
  cases k with
  | asl => exact blind_aslByte
  | lsr => exact blind_lsrByte
  | rol => exact blind_rolByte
  | ror => exact blind_rorByte

theorem keepsRest_modify (s : State) : KeepsRest s (k.modify v s).2 := by
  rw [modify_eq]
  exact (keepsRest_setFlag ..).trans (keepsRest_setZN ..)

/-- The effect of a shift: C is the bit shifted out, Z and N are from the result, and nothing else changes. -/
theorem modify_ends {s p : State} (h : ChangesOnly [] [] s p) :
    let t := (k.modify v p).2
    t.flag .c = k.carry v ∧ SetsZN (k.result v (s.flag .c)) t ∧ ChangesOnly [] [.c, .z, .n] s t := by
  obtain ⟨hr, hf⟩ := h
  rw [modify_eq, hf .c List.not_mem_nil]
  refine ⟨by simp, ⟨by simp, by simp⟩, fun r h => by simpa using hr r h, fun g hg => ?_⟩
  rw [← hf g List.not_mem_nil]
  cases g <;> simp_all

/-- The shift of the accumulator (R143). -/
def accumulate (s : State) : State := (k.modify s.a s).2.withA (k.modify s.a s).1

theorem blind_accumulate : LatchBlind k.accumulate := by
  cases k <;> exact blind_of_rfl (fun _ _ _ _ _ => rfl) fun _ => rfl

theorem keepsRest_accumulate (s : State) : KeepsRest s (k.accumulate s) :=
  (k.keepsRest_modify s.a s).trans (.of_eq _ _ _ _ _ rfl)

/-- A shift of the accumulator at the end of an instruction changes A, C, Z and N alone. -/
theorem accumulate_ends {s p : State} (h : ChangesOnly [] [] s p) :
    let t := (k.accumulate p).settled
    t.a = k.result s.a (s.flag .c) ∧ t.flag .c = k.carry s.a ∧ SetsZN (k.result s.a (s.flag .c)) t ∧
      ChangesOnly [.a] [.c, .z, .n] s t := by
  have ha : p.a = s.a := h.1 .a List.not_mem_nil
  have hc : p.flag .c = s.flag .c := h.2 .c List.not_mem_nil
  rw [accumulate, ha]
  obtain ⟨hcarry, hzn, honly⟩ := k.modify_ends s.a h
  refine ⟨?_, hcarry, hzn, changesOnly_withA honly _⟩
  show (k.modify s.a p).1 = _
  rw [modify_eq, hc]

end Shift

/-! The rows. -/

/-- Every accumulator row runs the implied entry with its shift of A. -/
theorem runsImplied_accumulatorForms : ∀ r ∈ accumulatorForms, r.1.RunsImplied r.2.accumulate := by
  intro r h
  fin_cases h <;> exact ⟨⟨rfl, rfl⟩, rfl, rfl, fun _ => rfl⟩

theorem runsImplied_inx : (⟨.inx, 0xE8, 1, 2⟩ : Form).RunsImplied opInx := ⟨⟨rfl, rfl⟩, rfl, rfl, fun _ => rfl⟩
theorem runsImplied_iny : (⟨.iny, 0xC8, 1, 2⟩ : Form).RunsImplied opIny := ⟨⟨rfl, rfl⟩, rfl, rfl, fun _ => rfl⟩
theorem runsImplied_dex : (⟨.dex, 0xCA, 1, 2⟩ : Form).RunsImplied opDex := ⟨⟨rfl, rfl⟩, rfl, rfl, fun _ => rfl⟩
theorem runsImplied_dey : (⟨.dey, 0x88, 1, 2⟩ : Form).RunsImplied opDey := ⟨⟨rfl, rfl⟩, rfl, rfl, fun _ => rfl⟩

section rows
variable (b : Byte) (w : Addr)

/-- Every memory row of a shift modifies by it the byte of its mode. -/
theorem runsModify_shiftForms (k : Shift) : ∀ f m, (f, m) ∈ shiftForms k b w → f.RunsModify m k.modify := by
  intro f m h
  cases k
  all_goals fin_cases h <;> exact ⟨⟨rfl, rfl⟩, rfl, fun _ => rfl, fun _ => rfl⟩

theorem runsModify_countForms :
    (∀ f m, (f, m) ∈ incForms b w → f.RunsModify m incByte) ∧
    ∀ f m, (f, m) ∈ decForms b w → f.RunsModify m decByte := by
  refine ⟨fun f m h => ?_, fun f m h => ?_⟩
  all_goals fin_cases h <;> exact ⟨⟨rfl, rfl⟩, rfl, fun _ => rfl, fun _ => rfl⟩

end rows

/-- A row whose implied operation loads `v` into the register `r`. -/
theorem Form.RunsImplied.loads {f : Form} {g : State → State} (h : f.RunsImplied g) (hb : LatchBlind g)
    (hk : ∀ p, KeepsRest p (g p)) {s : State} {r : Register} {v : Byte}
    (hv : g (s.implied f.instr) = r.load v (s.implied f.instr)) :
    ∃ t, exec f.instr s = .next t ∧ f.Runs s t ∧ r.value t = v ∧ SetsZN v t ∧ ChangesOnly [r] [.z, .n] s t ∧
      KeepsMemory s t ∧ KeepsScratch s t := by
  obtain ⟨ht, hruns, hmem, hscratch⟩ := h.completes hb hk s
  rw [hv] at ht hruns hmem hscratch
  obtain ⟨hval, hzn, honly⟩ := r.load_ends v s (s.progressed_changesOnly ..)
  exact ⟨_, ht, hruns, hval, hzn, honly, hmem, hscratch⟩

/-! The obligations. -/

/-- Settles O32: each row applies its shift to A, from a state with the registers and flags of `s`. -/
theorem accumulatorShiftsReplaceA : Obligations.AccumulatorShiftsReplaceA := by
  intro s r hr
  obtain ⟨ht, hruns, hmem, hscratch⟩ :=
    (runsImplied_accumulatorForms r hr).completes r.2.blind_accumulate r.2.keepsRest_accumulate s
  obtain ⟨ha, hc, hzn, honly⟩ := r.2.accumulate_ends (s.progressed_changesOnly ..)
  exact ⟨_, ht, hruns, ha, hc, hzn, honly, hmem, hscratch⟩

/-- Settles O33: every row runs the RMW entry of its mode with its shift, and the write of the result leaves the registers
and flags. -/
theorem memoryShiftsReplaceTheByte : Obligations.MemoryShiftsReplaceTheByte := by
  intro k s b w f m h
  refine (runsModify_shiftForms b w k f m h).modifies k.blind_modify k.keepsRest_modify
    (fun op n al ah q l => congrArg Prod.fst (k.modify_eq ..)) fun op n al ah q l ea => ?_
  obtain ⟨hc, hzn, honly⟩ := k.modify_ends (m.modified s f.instr) (s.progressed_changesOnly op n al ah q l)
  exact ⟨hc, hzn, changesOnly_rmwWritten honly ..⟩

/-- Settles O34: every row runs the RMW entry of its mode, whose effect is SetZN of the result. -/
theorem incAndDecCountAByteInMemory : Obligations.IncAndDecCountAByteInMemory := by
  intro s b w
  obtain ⟨inc, dec⟩ := runsModify_countForms b w
  refine ⟨fun f m h => (inc f m h).modifies blind_incByte keepsRest_incByte (fun _ _ _ _ _ _ => rfl)
      fun op n al ah q l ea => ?_,
    fun f m h => (dec f m h).modifies blind_decByte keepsRest_decByte (fun _ _ _ _ _ _ => rfl)
      fun op n al ah q l ea => ?_⟩
  all_goals exact setZN_rmwWritten_ends (s.progressed_changesOnly op n al ah q l) _ ea _

/-- Settles O35: each row loads its register with the register's value, counted up or down. -/
theorem registerCountsWrap : Obligations.RegisterCountsWrap := by
  intro s r hr
  fin_cases hr
  · exact runsImplied_inx.loads blind_opInx keepsRest_opInx rfl
  · exact runsImplied_iny.loads blind_opIny keepsRest_opIny rfl
  · exact runsImplied_dex.loads blind_opDex keepsRest_opDex rfl
  · exact runsImplied_dey.loads blind_opDey keepsRest_opDey rfl

end Sys2Proof.Machine
end

section
/-! The family of 44_control.md: branches, jumps, subroutines, RTI and BRK (R270 to R284). -/

namespace Sys2Proof.Machine

/-! The end of a sequence that loads PC. -/

section ends
variable {s p : State} {rs : List Register} {fs : List Flag}

theorem pc_setPc_settled (p : State) (w : Addr) : (p.setPc w).settled.pc = w := wordOf_hi8_lo8 w

/-- A load of PC at the end of an instruction leaves the registers and flags. -/
theorem changesOnly_setPc (h : ChangesOnly rs fs s p) (w : Addr) : ChangesOnly rs fs s (p.setPc w).settled := by
  obtain ⟨hr, hf⟩ := h
  refine ⟨fun r hn => ?_, hf⟩
  rw [← hr r hn]
  cases r <;> rfl

/-- A register set leaves the other registers, and the flags. -/
theorem Register.changesOnly_set (r : Register) (h : ChangesOnly [] fs s p) (v : Byte) :
    ChangesOnly [r] fs s (r.set v p) := by
  obtain ⟨hr, hf⟩ := h
  refine ⟨fun r' h' => ?_, fun g hg => ?_⟩
  · have hne : r' ≠ r := by simpa using h'
    rw [Register.value_set, if_neg hne, hr r' List.not_mem_nil]
  · rw [Register.flag_set, hf g hg]

end ends

/-! Branches (R270 to R278). -/

/-- The row is as encoded, and its instruction is the branch by the offset `b` that is taken when `on` has the value `v`. -/
structure Form.RunsBranch (f : Form) (b : Byte) (s : State) (on : Flag) (v : Bool) : Prop where
  encodes : f.Encodes
  cycles : f.cycles = 2 + branchCycles s on v b
  runs : exec f.instr s = runInstr (opcodeOf f.instr) (branchSeq (.byte b) on v) s

section branch
variable (b : Byte) (s : State)

theorem runsBranch_branchForms : ∀ f on v, (f, on, v) ∈ branchForms b s → f.RunsBranch b s on v := by
  intro f on v h
  fin_cases h <;> exact ⟨⟨rfl, rfl⟩, rfl, rfl⟩

variable (on : Flag) (v : Bool)

/-- The dummy reads of a branch, by the page of its target (R157). -/
theorem branchReads_eq_of_page :
    branchReads b s on v =
      if s.flag on = v then
        (if hi8 (branchTarget (s.pc + 2) b) = hi8 (s.pc + 2) then [s.pc + 2]
          else [s.pc + 2, wordOf (hi8 (s.pc + 2)) (lo8 (s.pc + 2) + b)])
      else [] := by
  simp only [branchReads, hi8_branchTarget_eq_iff]
  cases branchCross (lo8 (s.pc + 2)) b <;> rfl

/-- The cycles of a branch (R170): 2, one more when taken, and one more when its target lies on another page. -/
theorem two_add_branchCycles :
    2 + branchCycles s on v b =
      if s.flag on = v then (if hi8 (branchTarget (s.pc + 2) b) = hi8 (s.pc + 2) then 3 else 4) else 2 := by
  rw [branchCycles]
  split
  · split <;> rfl
  · rfl

/-- A branch makes an access in each of its cycles. -/
theorem branch_bus_length (l : List BusAccess) (hl : l.length = 2) :
    (s.thenReads l (branchReads b s on v)).length = 2 + branchCycles s on v b := by
  rw [State.thenReads_length, branchReads_length, hl]

end branch

/-! JSR and RTS in a memory (R281, R282). -/

section stack
variable {s : State}

theorem Platform.passive_of_isRam {p : Platform} (h : p.isRam) : p.passive = true := by
  rw [h]
  rfl

/-- What is read after reads alone is what is read now, where no device sees them. -/
theorem State.answer_eq_peek {l : List BusAccess} (hp : s.platform.passive = true)
    (hl : s.platform.after l = s.platform) (q : Addr) : s.answer l q = s.peek q := by
  rw [State.answer, hl]
  exact Platform.read_passive _ hp ..

/-- The bytes that JSR pushes, each with its slot: the address of its last byte, high byte first (R281). -/
abbrev jsrPushes (s : State) : List (Addr × Byte) :=
  [(wordOf 0x01 s.sp, hi8 (s.pc + 2)), (wordOf 0x01 (s.sp - 1), lo8 (s.pc + 2))]

theorem after_jsrLeads (s : State) (i : Instr) (w : Addr) :
    s.platform.after (jsrLeads s i w) = s.platform.after ((jsrPushes s).map fun c => .write c.1 c.2) := by
  rw [jsrLeads, Platform.after_append, Platform.after_thenRead]
  rfl

/-- In a memory, JSR reads after its pushes what they have left there. -/
theorem answer_jsrLeads (h : s.platform.isRam) (i : Instr) (w q : Addr) :
    s.answer (jsrLeads s i w) q = lastWritten (jsrPushes s) q (s.peek q) := by
  rw [State.answer, after_jsrLeads]
  exact Platform.read_after_ram _ _ h ..

/-- The second push does not reach the slot of the first. -/
theorem lastWritten_jsrPushes_first (s : State) (old : Byte) :
    lastWritten (jsrPushes s) (wordOf 0x01 s.sp) old = hi8 (s.pc + 2) :=
  (if_neg (slot_ne_zero s.sp 1 (by decide))).trans (if_pos rfl)

theorem lastWritten_jsrPushes_second (s : State) (old : Byte) :
    lastWritten (jsrPushes s) (wordOf 0x01 (s.sp - 1)) old = lo8 (s.pc + 2) := if_pos rfl

theorem lastWritten_jsrPushes_of_ne {q : Addr} (h1 : q ≠ wordOf 0x01 s.sp) (h2 : q ≠ wordOf 0x01 (s.sp - 1))
    (old : Byte) : lastWritten (jsrPushes s) q old = old := (if_neg h2.symm).trans (if_neg h1.symm)

end stack

/-! BRK (R284). -/

/-- The image of P that BRK pushes (R48, R284). -/
theorem State.statusImage_true (s : State) : s.statusImage true = (s.p &&& 0xCF) ||| 0x30 := BitVec.or_assoc ..

/-! The obligations. -/

/-- Settles O36: each row runs the branch sequence with its flag, whose dummy reads tell whether the target is on the page
of the next instruction. -/
theorem branchesGoToTheirTargetWhenTaken : Obligations.BranchesGoToTheirTargetWhenTaken := by
  intro s b f on v hf next target cycles
  obtain ⟨encodes, hcycles, hruns⟩ := runsBranch_branchForms b s f on v hf
  have hlen := branch_bus_length b s on v (fetch2 s f.instr b) rfl
  refine ⟨_, hruns.trans (run_branch f.instr b s on v),
    ⟨encodes.opcode, encodes.bytes, hlen.trans hcycles.symm, congrArg OpCode.op encodes.opcodeOf_eq⟩,
    completes_settled rfl rfl rfl rfl rfl rfl, hlen.trans (two_add_branchCycles b s on v), pc_setPc_settled ..,
    changesOnly_setPc (s.progressed_changesOnly ..) _, keepsMemory_of (Platform.after_thenReads ..), rfl, rfl, rfl, ?_⟩
  exact congrArg (s.thenReads (fetch2 s f.instr b)) (branchReads_eq_of_page b s on v)

/-- Settles O37, from the sequences of R159 and R160. -/
theorem jmpLoadsPc : Obligations.JmpLoadsPc := by
  refine fun s w => ⟨?absolute, ?indirect⟩
  case absolute =>
    exact ⟨_, (exec_jmpAbs w s).trans (run_jmpAbs (.jmpAbs w) w s), ⟨rfl, rfl, rfl, rfl⟩,
      completes_settled rfl rfl rfl rfl rfl rfl, pc_setPc_settled .., changesOnly_setPc (s.progressed_changesOnly ..) _,
      keepsMemory_of rfl, rfl, rfl, rfl, rfl⟩
  case indirect =>
    exact ⟨_, (exec_jmpInd w s).trans (run_jmpIndirect (.jmpInd w) w s), ⟨rfl, rfl, rfl, rfl⟩,
      completes_settled rfl rfl rfl rfl rfl rfl, pc_setPc_settled .., changesOnly_setPc (s.progressed_changesOnly ..) _,
      keepsMemory_of (Platform.after_thenReads ..), rfl, rfl, rfl, rfl⟩

/-- Settles O38: PCH is the byte at PC + 2 after the pushes, which in a memory is the pushed one where they overlap. -/
theorem jsrPushesItsLastAddressAndJumps : Obligations.JsrPushesItsLastAddressAndJumps := by
  intro s w ret slot1 slot2 l
  have hread (hram : s.platform.isRam) : s.answer l ret = lastWritten (jsrPushes s) ret (s.peek ret) :=
    answer_jsrLeads hram (.jsrAbs w) w ret
  refine ⟨_, (exec_jsrAbs w s).trans (run_jsr (.jsrAbs w) w s), ⟨rfl, rfl, rfl, rfl⟩,
    completes_settled rfl rfl rfl rfl rfl rfl, pc_setPc_settled .., ?ordinary, ?overwritten, rfl,
    changesOnly_setPc (Register.changesOnly_set .s (s.progressed_changesOnly ..) _) _,
    writes_of ((Platform.after_thenRead ..).trans (after_jsrLeads ..)), rfl, rfl, rfl, rfl⟩
  case ordinary =>
    intro hram hret h1 h2
    have hhigh : s.answer l ret = hi8 w := by rw [hread hram, lastWritten_jsrPushes_of_ne h1 h2, hret]
    exact (pc_setPc_settled ..).trans ((congrArg (wordOf · (lo8 w)) hhigh).trans (wordOf_hi8_lo8 w))
  case overwritten =>
    intro hram h1
    have hhigh : s.answer l ret = hi8 ret := by
      rw [hread hram]
      exact (congrArg (lastWritten _ · _) h1).trans (lastWritten_jsrPushes_first ..)
    exact (pc_setPc_settled ..).trans (congrArg (wordOf · (lo8 w)) hhigh)

/-- Settles O39, from the sequence of R162. -/
theorem rtsPullsPcAndStepsPastIt : Obligations.RtsPullsPcAndStepsPastIt := by
  intro s slot1 slot2 l pulled
  have hafter : s.platform.after (s.thenReads l [slot1, slot2, pulled]) = s.platform := by simp [l]
  exact ⟨_, (exec_rts s).trans (run_rts .rts s), ⟨rfl, rfl, rfl, rfl⟩, completes_settled rfl rfl rfl rfl rfl rfl,
    pc_setPc_settled .., rfl, changesOnly_setPc (Register.changesOnly_set .s (s.progressed_changesOnly ..) _) _,
    keepsMemory_of hafter, ⟨rfl, rfl, rfl⟩, rfl⟩

/-- Settles O40, from the sequence of R163. -/
theorem rtiPullsStatusAndPc : Obligations.RtiPullsStatusAndPc := by
  intro s slot1 slot2 slot3 l low high
  have hafter : s.platform.after (s.thenRead high slot3) = s.platform := by simp [high, low, l]
  exact ⟨_, (exec_rti s).trans (run_rti .rti s), ⟨rfl, rfl, rfl, rfl⟩, completes_settled rfl rfl rfl rfl rfl rfl, rfl,
    pc_setPc_settled .., rfl, rfl, rfl, rfl, keepsMemory_of hafter, ⟨rfl, rfl, rfl⟩, rfl⟩

/-- Settles O41: from the padding byte on, BRK is the entry of an interrupt with B set, and with PC at its address plus 2. -/
theorem brkPushesPcAndPAndLoadsTheIrqVector : Obligations.BrkPushesPcAndPAndLoadsTheIrqVector := by
  intro s ret image slot1 slot2 slot3 l
  have hpushed : pushedThree (s.implied .brk 2) true =
      [.write slot1 (hi8 ret), .write slot2 (lo8 ret), .write slot3 image] :=
    congrArg (fun v => [BusAccess.write slot1 (hi8 ret), .write slot2 (lo8 ret), .write slot3 v]) s.statusImage_true
  have hl : fetchImplied s .brk ++ pushedThree (s.implied .brk 2) true = l := congrArg _ hpushed
  have hwrites := interruptEntered_platform (s.implied .brk 2) s (fetchImplied s .brk) true irqVector
    (Platform.after_thenRead ..)
  rw [hpushed] at hwrites
  refine ⟨_, (exec_brk s).trans (run_brk .brk s), ⟨rfl, rfl, rfl, rfl⟩, completes_settled rfl rfl rfl rfl rfl rfl, ?pc, rfl,
    by simp, ⟨?registers, ?flags⟩, ⟨rfl, rfl, rfl⟩, writes_of hwrites, ?bus⟩
  case pc =>
    rw [State.settled_pc, interruptEntered_pc, hl]
    rfl
  case registers =>
    intro r hr
    cases r with
    | s => exact absurd (List.mem_singleton_self _) hr
    | a | x | y => rfl
  case flags =>
    intro g hg
    have hne : Flag.i ≠ g := fun h => hg (List.mem_singleton.2 h.symm)
    rw [State.settled_flag, interruptEntered_flag, if_neg hne]
    rfl
  case bus =>
    rw [State.settled_bus, interruptEntered_bus, hl]
    rfl

/-- Settles O20: RTS pulls the two bytes that JSR pushed, for it writes nothing before it pulls. -/
theorem rtsReturnsPastItsJsr : Obligations.RtsReturnsPastItsJsr := by
  intro s w hram
  obtain ⟨t, ht, -, -, -, -, -, hsp, ⟨hreg, hflag⟩, ⟨hplat, hmem⟩, -⟩ := jsrPushesItsLastAddressAndJumps s w
  obtain ⟨u, hu, -, -, hpc, husp, ⟨hureg, huflag⟩, -⟩ := rtsPullsPcAndStepsPastIt t
  have hram' : t.platform.isRam := by
    rw [hplat]
    exact Platform.isRam_write _ (s.platform.isRam_write hram ..) ..
  have hread (l : List BusAccess) (hl : t.platform.after l = t.platform) (q : Addr) :
      t.answer l q = lastWritten (jsrPushes s) q (s.peek q) :=
    (State.answer_eq_peek (Platform.passive_of_isRam hram') hl q).trans (hmem hram q)
  have hslot1 : t.sp + 2 = s.sp := by rw [hsp, BitVec.sub_add_cancel]
  have hslot2 : t.sp + 1 = s.sp - 1 := by rw [hsp]; bv_omega
  refine ⟨t, u, ht, hu, ?pc, ?registers, fun g _ => (huflag g List.not_mem_nil).trans (hflag g List.not_mem_nil)⟩
  case pc =>
    rw [hpc, hslot1, hslot2, hread _ (by simp), hread _ (by simp), lastWritten_jsrPushes_first,
      lastWritten_jsrPushes_second, wordOf_hi8_lo8, BitVec.add_assoc]
    rfl
  case registers =>
    intro r _
    by_cases hr : r ∈ [Register.s]
    · rw [List.mem_singleton.1 hr]
      exact husp.trans hslot1
    · exact (hureg r hr).trans (hreg r hr)

end Sys2Proof.Machine
end

section
/-! The family of 45_stack_flags_nop.md: pushes and pulls, the flag instructions and NOP (R300 to R311), and the unofficial
NOPs (R351 to R353). -/

namespace Sys2Proof.Machine

/-! What the operations leave at the end of an instruction. -/

section ends
variable {s p t : State}

theorem changesOnly_refl (s : State) : ChangesOnly [] [] s s := ⟨fun _ _ => rfl, fun _ _ => rfl⟩

/-- What changes from `s` to `p` and from there to `t` is all that changes from `s` to `t`. -/
theorem changesOnly_trans {rs rs' : List Register} {fs fs' : List Flag} (h : ChangesOnly rs fs s p)
    (h' : ChangesOnly rs' fs' p t) : ChangesOnly (rs' ++ rs) (fs' ++ fs) s t := by
  obtain ⟨hr, hf⟩ := h
  obtain ⟨hr', hf'⟩ := h'
  refine ⟨fun r hn => ?_, fun g hn => ?_⟩
  · obtain ⟨h2, h1⟩ := not_or.1 (mt List.mem_append.2 hn)
    exact (hr' r h2).trans (hr r h1)
  · obtain ⟨h2, h1⟩ := not_or.1 (mt List.mem_append.2 hn)
    exact (hf' g h2).trans (hf g h1)

/-- The end of an instruction leaves the registers and flags. -/
theorem changesOnly_settled {rs : List Register} {fs : List Flag} (h : ChangesOnly rs fs s p) :
    ChangesOnly rs fs s p.settled := by
  obtain ⟨hr, hf⟩ := h
  exact ⟨fun r hn => (r.value_settled p).trans (hr r hn), hf⟩

/-- A flag set at the end of an instruction, and no other. -/
theorem setFlag_ends (h : ChangesOnly [] [] s p) (f : Flag) (v : Bool) :
    let t := (p.setFlag f v).settled
    t.flag f = v ∧ ChangesOnly [] [f] s t := by
  obtain ⟨hr, hf⟩ := h
  refine ⟨by simp, changesOnly_settled ⟨fun r hn => by simpa using hr r hn, fun g hg => ?_⟩⟩
  have hne : f ≠ g := fun e => hg (List.mem_singleton.2 e.symm)
  simpa [hne] using hf g List.not_mem_nil

theorem Register.keepsRest_set (r : Register) (v : Byte) (s : State) : KeepsRest s (r.set v s) := by
  cases r <;> exact .of_eq _ _ _ _ _ rfl

end ends

/-! The rows of PHA, PHP, PLA and PLP (R165, R166). -/

/-- The row is as encoded and of one byte, and its instruction runs the whole of the entry `e`. -/
structure Form.RunsStack (f : Form) (e : Entry) : Prop where
  encodes : f.Encodes
  bytes : f.bytes = 1
  cycles : f.cycles = e.length
  runs : ∀ s, exec f.instr s = runInstr (opcodeOf f.instr) e s

section stack
variable {f : Form} {s : State}

/-- A stack instruction ends on the accesses `l`, from an operation on the registers after them. -/
theorem Form.RunsStack.ends {e : Entry} (h : f.RunsStack e) {q : State} {l : List BusAccess} (hl : l.length = e.length)
    (hk : KeepsRest (s.progressed (opcodeOf f.instr) 1 s.al s.ah s.operand l) q) :
    f.Runs s q.settled ∧ KeepsScratch s q.settled ∧ q.settled.platform = s.platform.after l ∧ q.settled.bus = l := by
  obtain ⟨hpc, hbus, hop, hc, hp, hscratch⟩ := hk.ends
  refine ⟨h.encodes.runs ?_ ?_ hop hc, hscratch, hp, hbus⟩
  · rw [h.bytes]; exact hpc
  · rw [hbus, hl, h.cycles]

/-- A row that pushes the byte `b` (R165). -/
theorem Form.RunsStack.pushes {v : State → Byte} (h : f.RunsStack (pushSeq v)) (hv : ValueBlind v) {b : Byte}
    (hb : v (s.implied f.instr) = b) :
    ∃ t, exec f.instr s = .next t ∧ f.Runs s t ∧ StoresByte (wordOf 0x01 s.sp) b s t ∧ t.sp = s.sp - 1 ∧
      ChangesOnly [.s] [] s t ∧ KeepsScratch s t ∧ t.bus = fetchImplied s f.instr ++ [.write (wordOf 0x01 s.sp) b] := by
  let l := fetchImplied s f.instr ++ [.write (wordOf 0x01 s.sp) b]
  let p := s.progressed (opcodeOf f.instr) 1 s.al s.ah s.operand l
  have hrun : exec f.instr s = .next (Register.set .s (s.sp - 1) p).settled := by
    rw [h.runs, run_push f.instr s hv, hb]
    rfl
  obtain ⟨hsp, honly⟩ := Register.set_ends .s (s.sp - 1) s (s.progressed_changesOnly ..)
  obtain ⟨hruns, hscratch, hp, hbus⟩ := h.ends rfl (Register.keepsRest_set .s (s.sp - 1) p)
  exact ⟨_, hrun, hruns, ⟨writes_of hp, congrArg List.getLast? hbus⟩, hsp, honly, hscratch, hbus⟩

/-- A row that applies its operation to the byte it pulls, from a state `p` with S moved up (R166). -/
theorem Form.RunsStack.pulls {g : ReadOp} (h : f.RunsStack (pullSeq g)) (hb : OpBlind g) (hk : g.KeepsRest) (s : State) :
    let slot := wordOf 0x01 (s.sp + 1)
    let l := s.thenRead (fetchImplied s f.instr) (wordOf 0x01 s.sp)
    ∃ p, p.sp = s.sp + 1 ∧ ChangesOnly [.s] [] s p ∧
      let t := (g (s.answer l slot) p).settled
      exec f.instr s = .next t ∧ f.Runs s t ∧ KeepsMemory s t ∧ KeepsScratch s t ∧ t.bus = s.thenRead l slot := by
  intro slot l
  let p := s.progressed (opcodeOf f.instr) 1 s.al s.ah s.operand (s.thenRead l slot)
  have hkeeps := (Register.keepsRest_set .s (s.sp + 1) p).trans (hk (s.answer l slot) _)
  obtain ⟨hruns, hscratch, hp, hbus⟩ := h.ends rfl hkeeps
  have hafter : s.platform.after (s.thenRead l slot) = s.platform := by simp [l]
  exact ⟨Register.set .s (s.sp + 1) p, rfl, Register.changesOnly_set .s (s.progressed_changesOnly ..) _,
    (h.runs s).trans (run_pull f.instr s hb), hruns, keepsMemory_of (hp.trans hafter), hscratch, hbus⟩

end stack

/-- Each row pushes the byte that it names. -/
theorem runsStack_pushForms (s : State) : ∀ r ∈ pushForms s,
    ∃ v, r.1.RunsStack (pushSeq v) ∧ ValueBlind v ∧ v (s.implied r.1.instr) = r.2 := by
  intro r h
  fin_cases h
  · exact ⟨_, ⟨⟨rfl, rfl⟩, rfl, rfl, fun _ => rfl⟩, blind_a, rfl⟩
  · exact ⟨_, ⟨⟨rfl, rfl⟩, rfl, rfl, fun _ => rfl⟩, blind_statusImage true, s.statusImage_true⟩

theorem runsStack_pla : (⟨.pla, 0x68, 1, 4⟩ : Form).RunsStack (pullSeq (Register.load .a)) :=
  ⟨⟨rfl, rfl⟩, rfl, rfl, fun _ => rfl⟩

theorem runsStack_plp : (⟨.plp, 0x28, 1, 4⟩ : Form).RunsStack (pullSeq fun v s => s.setStatus v) :=
  ⟨⟨rfl, rfl⟩, rfl, rfl, fun _ => rfl⟩

/-! The rows of the flag instructions and of the NOPs. -/

theorem runsImplied_flagForms : ∀ r ∈ flagForms, r.1.RunsImplied fun s => s.setFlag r.2.1 r.2.2 := by
  intro r h
  fin_cases h <;> exact ⟨⟨rfl, rfl⟩, rfl, rfl, fun _ => rfl⟩

theorem runsImplied_nopForms : ∀ f ∈ nopForms, f.RunsImplied id := by
  intro f h
  fin_cases h <;> exact ⟨⟨rfl, rfl⟩, rfl, rfl, fun _ => rfl⟩

theorem runsRead_nopReadForms (b : Byte) (w : Addr) : ∀ f o, (f, o) ∈ nopReadForms b w → f.RunsRead o opNop := by
  intro f o h
  fin_cases h <;> exact ⟨⟨rfl, rfl⟩, rfl, rfl, fun _ => rfl⟩

/-! The obligations. -/

/-- Settles O42: each row runs the push sequence with its byte, which the dummy read before it leaves as it was. -/
theorem phaAndPhpPushOneByte : Obligations.PhaAndPhpPushOneByte := by
  intro s r hr
  obtain ⟨v, hrow, hblind, hv⟩ := runsStack_pushForms s r hr
  exact hrow.pushes hblind hv

/-- Settles O43: PLA is a load of A with the pulled byte, after S has moved up; PLP puts that byte into P. -/
theorem plaAndPlpPullOneByte : Obligations.PlaAndPlpPullOneByte := by
  refine fun s => ⟨?pla, ?plp⟩
  case pla =>
    obtain ⟨p, hsp, hp, ht, hruns, hmem, hscratch, hbus⟩ :=
      runsStack_pla.pulls (Register.blind_load .a) (Register.keepsRest_load .a) s
    obtain ⟨ha, hzn, honly⟩ := Register.load_ends .a _ p (changesOnly_refl p)
    exact ⟨_, ht, hruns, ha, hzn, hsp, changesOnly_trans hp honly, hmem, hscratch, hbus⟩
  case plp =>
    obtain ⟨p, hsp, ⟨hreg, -⟩, ht, hruns, hmem, hscratch, hbus⟩ :=
      runsStack_plp.pulls blind_plp (fun v p => keepsRest_setStatus p v) s
    exact ⟨_, ht, hruns, rfl, hsp, hreg .a (by decide), hreg .x (by decide), hreg .y (by decide), hmem, hscratch, hbus⟩

/-- Settles O44: each row runs the implied entry with the write of its flag. -/
theorem flagInstructionsWriteOneFlag : Obligations.FlagInstructionsWriteOneFlag := by
  intro s r hr
  obtain ⟨ht, hruns, hmem, hscratch⟩ :=
    (runsImplied_flagForms r hr).completes (blind_setFlag ..) (keepsRest_setFlag · ..) s
  obtain ⟨hflag, honly⟩ := setFlag_ends (s.progressed_changesOnly ..) r.2.1 r.2.2
  exact ⟨_, ht, hruns, hflag, honly, hmem, hscratch⟩

/-- Settles O45: the operation of a NOP leaves the state that its accesses lead to, with the registers and flags of `s`. -/
theorem nopsOnlyAdvancePc : Obligations.NopsOnlyAdvancePc := by
  refine fun s b w => ⟨fun f hf => ?implied, fun f o h => ?operand⟩
  case implied =>
    obtain ⟨ht, hruns, hmem, hscratch⟩ := (runsImplied_nopForms f hf).completes blind_id keepsRest_id s
    exact ⟨_, ht, hruns, changesOnly_settled (s.progressed_changesOnly ..), hmem, hscratch⟩
  case operand =>
    exact (runsRead_nopReadForms b w f o h).completes blind_opNop keepsRest_opNop fun op n al ah q l =>
      changesOnly_settled (s.progressed_changesOnly op n al ah q l)

end Sys2Proof.Machine
end

section
/-! The family of 46_unofficial.md: the combined read-modify-writes, the combined loads, the immediate combinations, the
stores of the high byte and the JAM slots (R330 to R350, R354, R355). -/

namespace Sys2Proof.Machine

/-! Registers and flags at the end of an operation that is made of two. -/

section changes
variable {rs rs' : List Register} {fs fs' : List Flag} {s p q t : State}

/-- What changes at most some registers and flags changes at most more of them. -/
theorem changesOnly_mono (h : ChangesOnly rs fs s t) (hrs : rs ⊆ rs') (hfs : fs ⊆ fs') : ChangesOnly rs' fs' s t :=
  ⟨fun r hr => h.1 r fun hm => hr (hrs hm), fun g hg => h.2 g fun hm => hg (hfs hm)⟩

/-- The end of an instruction shows the registers and flags that the operation has left. -/
theorem changesOnly_of_settled (h : ChangesOnly rs fs s q.settled) : ChangesOnly rs fs s q :=
  ⟨fun r hr => (r.value_settled q).symm.trans (h.1 r hr), h.2⟩

/-- A load changes its register, N and Z alone. -/
theorem Register.load_changes (r : Register) (v : Byte) (p : State) :
    r.value (r.load v p) = v ∧ SetsZN v (r.load v p) ∧ ChangesOnly [r] [.z, .n] p (r.load v p) := by
  obtain ⟨hval, hzn, honly⟩ := r.load_ends v p (changesOnly_refl p)
  exact ⟨(r.value_settled _).symm.trans hval, hzn, changesOnly_of_settled honly⟩

/-- The last cycle of a modification leaves an ALU operation's result in A and the flags. -/
theorem AluResult.Ends.rmwWritten {r : AluResult} (h : r.Ends s q.settled) (ea : Addr) (v : Byte) :
    r.Ends s (q.rmwWritten ea v).settled :=
  ⟨h.value, h.n, h.v, h.z, h.c, changesOnly_rmwWritten (changesOnly_of_settled h.changesOnly) ea v⟩

/-- An ALU operation after one that changes some of its flags alone. -/
theorem AluResult.Ends.after {r : AluResult} (h : r.Ends p t) (hp : ChangesOnly [] fs s p)
    (hfs : fs ⊆ [.n, .v, .z, .c]) : r.Ends s t where
  value := h.value
  n := h.n
  v := h.v
  z := h.z
  c := h.c
  changesOnly := changesOnly_mono (changesOnly_trans hp h.changesOnly) (List.Subset.refl _)
    (List.append_subset.2 ⟨List.Subset.refl _, hfs⟩)

/-- The result that ADD chooses, as R201 and R202 state it. -/
theorem adds_of_ends {a v : Byte} {c d : Bool} (h : (if d then addDecimal a v c else addBinary a v c).Ends s t) :
    if d then AddsDecimal a v c t else AddsBinary a v c t := by
  cases d with
  | true => exact ⟨h.value, h.c, h.z, h.n, h.v⟩
  | false => exact ⟨h.value, h.c, h.v, h.z, h.n⟩

/-- The result that SUB chooses, as R204 and R205 state it. -/
theorem subtracts_of_ends {a v : Byte} {c d : Bool} (h : (if d then subDecimal a v c else subBinary a v c).Ends s t) :
    if d then SubtractsDecimal a v c t else SubtractsBinary a v c t := by
  cases d with
  | true => exact ⟨h.value, h.c, h.v, h.z, h.n⟩
  | false => exact ⟨h.value, h.c, h.v, h.z, h.n⟩

end changes

/-! SLO, RLA and SRE: a shift, and a load of A with its result combined into A (R331 to R333). -/

namespace Shift
variable (k : Shift) (c : Byte → Byte → Byte) (v : Byte)

/-- The shift `k`, and then `A <- c(A, r); SetZN(A)` for its result `r`. -/
def combine : Modify := fun v s =>
  ((k.modify v s).1, Register.load .a (c s.a (k.modify v s).1) (k.modify v s).2)

theorem combine_fst (s : State) : (k.combine c v s).1 = k.result v (s.flag .c) := congrArg Prod.fst (k.modify_eq v s)

theorem blind_combine : ModifyBlind (k.combine c) := by
  cases k <;> exact ⟨fun _ _ _ _ _ _ => rfl, fun _ => ⟨fun _ _ _ _ _ => rfl, fun _ => rfl⟩⟩

theorem keepsRest_combine (s : State) : KeepsRest s (k.combine c v s).2 :=
  (k.keepsRest_modify v s).trans (Register.keepsRest_load .a _ _)

/-- C is the bit shifted out, A the combination with the result, Z and N from it, and nothing else changes. -/
theorem combine_changes {s p : State} (h : ChangesOnly [] [] s p) :
    let r := k.result v (s.flag .c)
    let t := (k.combine c v p).2
    t.a = c s.a r ∧ t.flag .c = k.carry v ∧ SetsZN (c s.a r) t ∧ ChangesOnly [.a] [.c, .z, .n] s t := by
  intro r t
  have ha : p.a = s.a := h.1 .a List.not_mem_nil
  have hr : (k.modify v p).1 = r := (k.combine_fst c v p).trans (by rw [h.2 .c List.not_mem_nil])
  have ht : t = Register.load .a (c s.a r) (k.modify v p).2 := by rw [← ha, ← hr]; rfl
  obtain ⟨hc, -, hshift⟩ := k.modify_ends v h
  obtain ⟨hval, hzn, hload⟩ := Register.load_changes .a (c s.a r) (k.modify v p).2
  rw [ht]
  exact ⟨hval, (hload.2 .c (by decide)).trans hc, hzn,
    changesOnly_mono (changesOnly_trans hshift hload) (by decide) (by decide)⟩

end Shift

/-- A row that shifts the byte at its effective address by `k`, and combines the result into A by `c`. -/
theorem Form.RunsModify.combines {f : Form} {m : Mode} {k : Shift} {c : Byte → Byte → Byte}
    (h : f.RunsModify m (k.combine c)) (s : State) :
    let v := m.modified s f.instr
    let r := k.result v (s.flag .c)
    ∃ t, exec f.instr s = .next t ∧ f.Runs s t ∧ ModifiesByte m f.instr r s t ∧ t.a = c s.a r ∧
      t.flag .c = k.carry v ∧ SetsZN (c s.a r) t ∧ ChangesOnly [.a] [.c, .z, .n] s t := by
  refine h.modifies (k.blind_combine c) (k.keepsRest_combine c) (fun op n al ah q l => k.combine_fst c _ _)
    fun op n al ah q l ea => ?_
  obtain ⟨ha, hc, hzn, honly⟩ := k.combine_changes c (m.modified s f.instr) (s.progressed_changesOnly op n al ah q l)
  exact ⟨ha, hc, hzn, changesOnly_rmwWritten honly ..⟩

/-! The rows of the combined read-modify-writes. -/

section rows
variable (b : Byte) (w : Addr)

theorem runsModify_combineForms :
    (∀ f m, (f, m) ∈ sloForms b w → f.RunsModify m (Shift.asl.combine (· ||| ·))) ∧
    (∀ f m, (f, m) ∈ rlaForms b w → f.RunsModify m (Shift.rol.combine (· &&& ·))) ∧
    ∀ f m, (f, m) ∈ sreForms b w → f.RunsModify m (Shift.lsr.combine (· ^^^ ·)) := by
  refine ⟨fun f m h => ?_, fun f m h => ?_, fun f m h => ?_⟩
  all_goals fin_cases h <;> exact ⟨⟨rfl, rfl⟩, rfl, fun _ => rfl, fun _ => rfl⟩

theorem runsModify_arithmeticForms :
    (∀ f m, (f, m) ∈ rraForms b w → f.RunsModify m modifyRra) ∧
    (∀ f m, (f, m) ∈ iscForms b w → f.RunsModify m modifyIsc) ∧
    ∀ f m, (f, m) ∈ dcpForms b w → f.RunsModify m modifyDcp := by
  refine ⟨fun f m h => ?_, fun f m h => ?_, fun f m h => ?_⟩
  all_goals fin_cases h <;> exact ⟨⟨rfl, rfl⟩, rfl, fun _ => rfl, fun _ => rfl⟩

end rows

/-- RRA adds with the carry that its rotation has left, and nothing that decides ADD's mode has changed (R334). -/
theorem modifyRra_ends {s p : State} (h : ChangesOnly [] [] s p) (hd : p.decimalEnabled = s.decimalEnabled) (v : Byte) :
    let r := Shift.ror.result v (s.flag .c)
    let c := Shift.ror.carry v
    (if s.decimal then addDecimal s.a r c else addBinary s.a r c).Ends s (modifyRra v p).2.settled := by
  intro r c
  let q := (Shift.ror.modify v p).2
  obtain ⟨hcarry, -, hq⟩ := Shift.ror.modify_ends v h
  have hc : q.flag .c = c := hcarry
  have ha : q.a = s.a := hq.1 .a List.not_mem_nil
  have hdec : q.decimal = s.decimal :=
    congrArg₂ (· && ·) ((Shift.ror.keepsRest_modify v p).decimalEnabled.trans hd) (hq.2 .d (by decide))
  have hr : (Shift.ror.modify v p).1 = r := by rw [Shift.modify_eq, h.2 .c List.not_mem_nil]
  have hadd : (modifyRra v p).2 = q.setAlu (if s.decimal then addDecimal s.a r c else addBinary s.a r c) := by
    rw [← ha, ← hdec, ← hr, ← hc]
    rfl
  rw [hadd]
  exact (State.setAlu_ends (changesOnly_refl q) _).after hq (by decide)

/-! The rows of the immediate instructions. -/

/-- The state after the fetches of an immediate instruction (R144). -/
abbrev State.immediate (s : State) (i : Instr) (b : Byte) : State :=
  s.progressed (opcodeOf i) 2 s.al s.ah s.operand (fetch2 s i b)

/-- An immediate instruction applies its operation to its operand, and leaves memory and the scratch registers alone. -/
theorem Form.RunsRead.completes_immediate {f : Form} {b : Byte} {g : ReadOp} (h : f.RunsRead (.imm b) g)
    (hb : OpBlind g) (hk : g.KeepsRest) (s : State) :
    let t := (g b (s.immediate f.instr b)).settled
    exec f.instr s = .next t ∧ f.Runs s t ∧ KeepsMemory s t ∧ KeepsScratch s t := by
  obtain ⟨hpc, hbus, hop, hc, hp, hscratch⟩ := (hk b (s.immediate f.instr b)).ends
  refine ⟨(h.runs s).trans (run_immediate f.instr b s hb), h.encodes.runs ?_ ?_ hop hc, keepsMemory_of hp, hscratch⟩
  · rw [h.bytes]; exact hpc
  · rw [h.cycles, hbus]; rfl

theorem State.immediate_changesOnly (s : State) (i : Instr) (b : Byte) : ChangesOnly [] [] s (s.immediate i b) :=
  s.progressed_changesOnly ..

section rows
variable (b : Byte) (w : Addr)

theorem runsRead_laxLasForms :
    (∀ f o, (f, o) ∈ laxForms b w → f.RunsRead o opLax) ∧ ∀ f o, (f, o) ∈ lasForms b w → f.RunsRead o opLas := by
  refine ⟨fun f o h => ?_, fun f o h => ?_⟩
  all_goals fin_cases h <;> exact ⟨⟨rfl, rfl⟩, rfl, rfl, fun _ => rfl⟩

theorem runsRead_ancForms : ∀ f ∈ ancForms b, f.RunsRead (.imm b) opAnc := by
  intro f h
  fin_cases h <;> exact ⟨⟨rfl, rfl⟩, rfl, rfl, fun _ => rfl⟩

theorem runsRead_alr : (⟨.alrImm b, 0x4B, 2, 2⟩ : Form).RunsRead (.imm b) opAlr :=
  ⟨⟨rfl, rfl⟩, rfl, rfl, fun _ => rfl⟩

theorem runsRead_sbx : (⟨.sbxImm b, 0xCB, 2, 2⟩ : Form).RunsRead (.imm b) opSbx :=
  ⟨⟨rfl, rfl⟩, rfl, rfl, fun _ => rfl⟩

theorem runsRead_arr : (⟨.arrImm b, 0x6B, 2, 2⟩ : Form).RunsRead (.imm b) opArr :=
  ⟨⟨rfl, rfl⟩, rfl, rfl, fun _ => rfl⟩

theorem runsRead_ane : (⟨.aneImm b, 0x8B, 2, 2⟩ : Form).RunsRead (.imm b) opAne :=
  ⟨⟨rfl, rfl⟩, rfl, rfl, fun _ => rfl⟩

theorem runsRead_lxa : (⟨.lxaImm b, 0xAB, 2, 2⟩ : Form).RunsRead (.imm b) opLxa :=
  ⟨⟨rfl, rfl⟩, rfl, rfl, fun _ => rfl⟩

end rows

/-! What these operations leave at the end of an instruction, from a state `p` with the registers and flags of `s`. -/

section ends
variable {s p : State} (h : ChangesOnly [] [] s p) (v : Byte)
include h

/-- LAX loads X, and then A with N and Z (R336). -/
theorem opLax_ends :
    let t := (opLax v p).settled
    t.a = v ∧ t.x = v ∧ SetsZN v t ∧ ChangesOnly [.a, .x] [.z, .n] s t := by
  obtain ⟨ha, hzn, honly⟩ := Register.load_ends .a v _ (changesOnly_refl (Register.set .x v p))
  exact ⟨ha, rfl, hzn, changesOnly_trans (Register.changesOnly_set .x h v) honly⟩

/-- LAS loads S with the operand AND S, and then A and X as LAX does (R350). -/
theorem opLas_ends :
    let r := v &&& s.sp
    let t := (opLas v p).settled
    t.a = r ∧ t.x = r ∧ t.sp = r ∧ SetsZN r t ∧ ChangesOnly [.a, .x, .s] [.z, .n] s t := by
  intro r t
  have hs : p.sp = s.sp := h.1 .s List.not_mem_nil
  have ht : t = (opLax r (Register.set .s r p)).settled := by simp only [t, r, ← hs]; rfl
  obtain ⟨ha, hx, hzn, honly⟩ := opLax_ends (changesOnly_refl (Register.set .s r p)) r
  rw [ht]
  exact ⟨ha, hx, rfl, hzn, changesOnly_trans (Register.changesOnly_set .s h r) honly⟩

/-- ANC loads A with A AND the operand, and then copies N to C (R339). -/
theorem opAnc_ends :
    let r := s.a &&& v
    let t := (opAnc v p).settled
    t.a = r ∧ SetsZN r t ∧ t.flag .c = r.getLsbD 7 ∧ ChangesOnly [.a] [.z, .n, .c] s t := by
  intro r t
  let q := Register.load .a r p
  have ha : p.a = s.a := h.1 .a List.not_mem_nil
  have ht : t = (q.setFlag .c (r.getLsbD 7)).settled := by simp only [t, q, r, ← ha]; rfl
  obtain ⟨hval, ⟨hz, hn⟩, hload⟩ := Register.load_changes .a r p
  obtain ⟨hc, hset⟩ := setFlag_ends (changesOnly_refl q) .c (r.getLsbD 7)
  rw [ht]
  exact ⟨hval, ⟨(hset.2 .z (by decide)).trans hz, (hset.2 .n (by decide)).trans hn⟩, hc,
    changesOnly_mono (changesOnly_trans (changesOnly_trans h hload) hset) (by decide) (by decide)⟩

/-- ALR puts A AND the operand into A, and then shifts A right (R340). -/
theorem opAlr_ends :
    let r := s.a &&& v
    let t := (opAlr v p).settled
    t.a = r >>> 1 ∧ SetsZN (r >>> 1) t ∧ t.flag .c = r.getLsbD 0 ∧ ChangesOnly [.a] [.z, .n, .c] s t := by
  intro r t
  let q := Register.set .a r p
  have ha : p.a = s.a := h.1 .a List.not_mem_nil
  have ht : t = (Shift.lsr.accumulate q).settled := by simp only [t, q, r, ← ha]; rfl
  obtain ⟨hval, hc, hzn, honly⟩ := Shift.lsr.accumulate_ends (changesOnly_refl q)
  rw [ht]
  exact ⟨hval, hzn, hc,
    changesOnly_mono (changesOnly_trans (Register.changesOnly_set .a h r) honly) (by decide) (by decide)⟩

/-- SBX subtracts the operand from A AND X into X, with the flags of their compare (R344). -/
theorem opSbx_ends :
    let r := s.a &&& s.x
    let t := (opSbx v p).settled
    t.x = r - v ∧ Compares r v t ∧ ChangesOnly [.x] [.z, .n, .c] s t := by
  intro r t
  let q := Register.set .x (r - v) p
  have ha : p.a = s.a := h.1 .a List.not_mem_nil
  have hx : p.x = s.x := h.1 .x List.not_mem_nil
  have ht : t = (q.compare r v).settled := by simp only [t, q, r, ← ha, ← hx]; rfl
  obtain ⟨hcompares, honly⟩ := State.compare_ends (changesOnly_refl q) r v
  rw [ht]
  exact ⟨rfl, hcompares,
    changesOnly_mono (changesOnly_trans (Register.changesOnly_set .x h _) honly) (by decide) (by decide)⟩

end ends

/-- ARR ends with the result of the rule that the mode chooses (R341). -/
theorem opArr_ends (s : State) (i : Instr) (b : Byte) :
    (if s.decimal then arrDecimal (s.a &&& b) (s.flag .c) else arrBinary (s.a &&& b) (s.flag .c)).Ends s
      (opArr b (s.immediate i b)).settled :=
  State.setAlu_ends (s.immediate_changesOnly i b) _

/-! SHA, SHX, SHY and TAS. -/

theorem ofRegisters_sourceSha : OfRegisters sourceSha := fun _ _ h => congrArg₂ (· &&& ·) (h .a) (h .x)
theorem ofRegisters_sourceShx : OfRegisters sourceShx := fun _ _ h => h .x
theorem ofRegisters_sourceShy : OfRegisters sourceShy := fun _ _ h => h .y

/-- The effective address of a page-crossing form is its base plus its index. -/
theorem Mode.ea_of_indexed {m : Mode} {s : State} {i : Instr} {base : Addr} {v : Byte}
    (h : m.indexed s i = some (base, v)) : m.ea s i = base + v.setWidth 16 := by
  cases m with
  | absIndexed j w => cases h; rfl
  | izy b => cases h; rfl
  | zp | zpIndexed | abs | izx => cases h

/-- The row is as encoded, and its instruction stores by R355, with the index `j`, the source `v`. -/
structure Form.RunsHighStore (f : Form) (m : Mode) (j : Index) (v : State → Byte) : Prop where
  encodes : f.Encodes
  bytes : f.bytes = m.bytes
  cycles : f.cycles = m.reach + 2
  runs : ∀ s, exec f.instr s = runInstr (opcodeOf f.instr) (shSeq m.address j v) s
  indexed : ∀ s, ∃ base, m.indexed s f.instr = some (base, j.value s)

section high
variable {f : Form} {m : Mode} {s : State}

/-- The end of a store of `v` at `ea` after the dummy read at the unfixed address, from a state `q` that differs in A, X,
Y, S and P alone from the one its accesses lead to. -/
theorem Form.Encodes.storesAfterUnfixed (h : f.Encodes) (hb : f.bytes = m.bytes) (hc : f.cycles = m.reach + 2)
    {base ea : Addr} {i al ah o v : Byte} {q : State}
    (hk : KeepsRest (s.progressed (opcodeOf f.instr) (BitVec.ofNat 16 m.bytes) al ah o
      (s.thenRead (m.fetches s f.instr) (unfixed base i) ++ [.write ea v])) q) :
    f.Runs s q.settled ∧ StoresByte ea v s q.settled ∧
      q.settled.bus = s.thenRead (m.fetches s f.instr) (unfixed base i) ++ [.write ea v] := by
  obtain ⟨hpc, hbus, hop, hcomp, hp, -⟩ := hk.ends
  have hw : q.settled.platform = s.platform.after [.write ea v] := by
    rw [hp, Platform.after_append, Platform.after_thenRead, Mode.after_fetches]
  refine ⟨h.runs (by rw [hb]; exact hpc) ?_ hop hcomp, ⟨writes_of hw, ?_⟩, hbus⟩
  · rw [hbus, hc]; simp
  · rw [hbus]; exact List.getLast?_concat

/-- A row of SHA, SHX or SHY stores its source AND the base's high byte plus 1 (R346 to R348, R355). -/
theorem Form.RunsHighStore.stores {j : Index} {v : State → Byte} (h : f.RunsHighStore m j v) (hv : OfRegisters v)
    {base : Addr} {i : Byte} (hm : m.indexed s f.instr = some (base, i)) :
    let stored := v s &&& (hi8 base + 1)
    ∃ t, exec f.instr s = .next t ∧ f.Runs s t ∧ StoresByte (highPlace base i stored) stored s t ∧
      ChangesOnly [] [] s t ∧
      t.bus = s.thenRead (m.fetches s f.instr) (unfixed base i) ++ [.write (highPlace base i stored) stored] := by
  intro stored
  obtain ⟨base', hj⟩ := h.indexed s
  obtain ⟨rfl, rfl⟩ := Prod.mk.inj (Option.some.inj (hj.symm.trans hm))
  obtain ⟨o, hr⟩ := m.reaches f.instr s
  have hp := hv s (s.addressed f.instr m (BitVec.ofNat 16 m.bytes) o (m.leads s f.instr)) fun r => r.value_progressed ..
  have hrun := (h.runs s).trans (run_shSeq f.instr _ j s hr hm (Mode.ea_of_indexed hm) hv.blind hp)
  obtain ⟨hruns, hstores, hbus⟩ := h.encodes.storesAfterUnfixed h.bytes h.cycles (keepsRest_refl (s.progressed ..))
  exact ⟨_, hrun, hruns, hstores, changesOnly_settled (s.progressed_changesOnly ..), hbus⟩

end high

/-- Each row of SHA, SHX and SHY stores by R355, from the registers that it names. -/
theorem runsHighStore_shForms (b : Byte) (w : Addr) (s : State) : ∀ f m source, (f, m, source) ∈ shForms b w s →
    ∃ j v, f.RunsHighStore m j v ∧ OfRegisters v ∧ v s = source := by
  intro f m source h
  fin_cases h
  · exact ⟨.y, _, ⟨⟨rfl, rfl⟩, rfl, rfl, fun _ => rfl, fun _ => ⟨_, rfl⟩⟩, ofRegisters_sourceSha, rfl⟩
  · exact ⟨.y, _, ⟨⟨rfl, rfl⟩, rfl, rfl, fun _ => rfl, fun _ => ⟨_, rfl⟩⟩, ofRegisters_sourceSha, rfl⟩
  · exact ⟨.y, _, ⟨⟨rfl, rfl⟩, rfl, rfl, fun _ => rfl, fun _ => ⟨_, rfl⟩⟩, ofRegisters_sourceShx, rfl⟩
  · exact ⟨.x, _, ⟨⟨rfl, rfl⟩, rfl, rfl, fun _ => rfl, fun _ => ⟨_, rfl⟩⟩, ofRegisters_sourceShy, rfl⟩

/-- The JAM slots run the entry that is c0 alone (R168). -/
theorem runsStack_jamForms : ∀ f ∈ jamForms, f.RunsStack jamSeq := by
  intro f h
  fin_cases h <;> exact ⟨⟨rfl, rfl⟩, rfl, rfl, fun _ => rfl⟩

/-! The obligations. -/

/-- Settles O46: c0 is the whole entry of a JAM slot, and its fetch the one access. -/
theorem jamIsAOneCycleNop : Obligations.JamIsAOneCycleNop := by
  intro s f hf
  have hrow := runsStack_jamForms f hf
  obtain ⟨hruns, hscratch, hp, hbus⟩ := hrow.ends (l := fetch1 s f.instr) rfl (keepsRest_refl _)
  exact ⟨_, (hrow.runs s).trans (run_jam f.instr s), hruns, changesOnly_settled (s.progressed_changesOnly ..),
    keepsMemory_of hp, hscratch, hbus⟩

/-- Settles O47: each row shifts its byte and combines the result into A. -/
theorem sloRlaSreCombineAWithTheShiftedByte : Obligations.SloRlaSreCombineAWithTheShiftedByte := by
  intro s b w
  obtain ⟨slo, rla, sre⟩ := runsModify_combineForms b w
  exact ⟨fun f m h => (slo f m h).combines s, fun f m h => (rla f m h).combines s, fun f m h => (sre f m h).combines s⟩

/-- Settles O48: ADD follows the rotation, and the write of the rotated byte leaves its result. -/
theorem rraRotatesThenAdds : Obligations.RraRotatesThenAdds := by
  intro s b w f m h
  obtain ⟨rra, -, -⟩ := runsModify_arithmeticForms b w
  refine (rra f m h).modifies blind_modifyRra keepsRest_modifyRra
    (fun op n al ah q l => congrArg Prod.fst (Shift.ror.modify_eq ..)) fun op n al ah q l ea => ?_
  have hends := (modifyRra_ends (s.progressed_changesOnly op n al ah q l) rfl (m.modified s f.instr)).rmwWritten ea
    (Shift.ror.result (m.modified s f.instr) (s.flag .c))
  exact ⟨adds_of_ends hends, hends.changesOnly⟩

/-- Settles O49: SUB of the incremented byte, whose write leaves SUB's result. -/
theorem iscIncrementsThenSubtracts : Obligations.IscIncrementsThenSubtracts := by
  intro s b w f m h
  obtain ⟨-, isc, -⟩ := runsModify_arithmeticForms b w
  refine (isc f m h).modifies blind_modifyIsc keepsRest_modifyIsc (fun _ _ _ _ _ _ => rfl)
    fun op n al ah q l ea => ?_
  have hends : (if s.decimal then subDecimal s.a (m.modified s f.instr + 1) (s.flag .c)
      else subBinary s.a (m.modified s f.instr + 1) (s.flag .c)).Ends s _ :=
    (State.setAlu_ends (s.progressed_changesOnly op n al ah q l) _).rmwWritten ea (m.modified s f.instr + 1)
  exact ⟨subtracts_of_ends hends, hends.changesOnly⟩

/-- Settles O50: the compare with the decremented byte, whose write leaves the flags. -/
theorem dcpDecrementsThenCompares : Obligations.DcpDecrementsThenCompares := by
  intro s b w f m h
  obtain ⟨-, -, dcp⟩ := runsModify_arithmeticForms b w
  refine (dcp f m h).modifies blind_modifyDcp keepsRest_modifyDcp (fun _ _ _ _ _ _ => rfl)
    fun op n al ah q l ea => ?_
  obtain ⟨hcompares, honly⟩ := State.compare_ends (s.progressed_changesOnly op n al ah q l) s.a (m.modified s f.instr - 1)
  exact ⟨hcompares, changesOnly_rmwWritten (changesOnly_of_settled honly) ..⟩

/-- Settles O51: every row runs the read entry of its operand with LAX's or LAS's operation. -/
theorem laxAndLasLoadSeveralRegisters : Obligations.LaxAndLasLoadSeveralRegisters := by
  intro s b w
  obtain ⟨lax, las⟩ := runsRead_laxLasForms b w
  exact ⟨fun f o h => (lax f o h).completes blind_opLax keepsRest_opLax fun op n al ah q l =>
      opLax_ends (s.progressed_changesOnly op n al ah q l) _,
    fun f o h => (las f o h).completes blind_opLas keepsRest_opLas fun op n al ah q l =>
      opLas_ends (s.progressed_changesOnly op n al ah q l) _⟩

/-- Settles O52: each row runs the immediate entry with its operation. -/
theorem ancAlrSbxCombineImmediates : Obligations.AncAlrSbxCombineImmediates := by
  refine fun s b => ⟨fun f hf => ?anc, ?alr, ?sbx⟩
  case anc =>
    obtain ⟨ht, hruns, hmem, hscratch⟩ := (runsRead_ancForms b f hf).completes_immediate blind_opAnc keepsRest_opAnc s
    obtain ⟨ha, hzn, hc, honly⟩ := opAnc_ends (s.immediate_changesOnly f.instr b) b
    exact ⟨_, ht, hruns, ha, hzn, hc, honly, hmem, hscratch⟩
  case alr =>
    obtain ⟨ht, hruns, hmem, hscratch⟩ := (runsRead_alr b).completes_immediate blind_opAlr keepsRest_opAlr s
    obtain ⟨ha, hzn, hc, honly⟩ := opAlr_ends (s.immediate_changesOnly (.alrImm b) b) b
    exact ⟨_, ht, hruns, ha, hzn, hc, honly, hmem, hscratch⟩
  case sbx =>
    obtain ⟨ht, hruns, hmem, hscratch⟩ := (runsRead_sbx b).completes_immediate blind_opSbx keepsRest_opSbx s
    obtain ⟨hx, hcompares, honly⟩ := opSbx_ends (s.immediate_changesOnly (.sbxImm b) b) b
    exact ⟨_, ht, hruns, hx, hcompares, honly, hmem, hscratch⟩

/-- Settles O53: the rotation puts the old C into the bit that the shift has cleared, and each rule gives its result. -/
theorem arrRotatesWithItsOwnFlags : Obligations.ArrRotatesWithItsOwnFlags := by
  intro s b t c r r' high
  obtain ⟨ht, hruns, hmem, hscratch⟩ := (runsRead_arr b).completes_immediate blind_opArr keepsRest_opArr s
  have hends := opArr_ends s (.arrImm b) b
  refine ⟨_, ht, hruns, ?_, hends.changesOnly, hmem, hscratch⟩
  have hr : putBit (t >>> 1) 7 c = r := putBit_of_clear (by simp) c
  have hbinary : arrBinary t c = ⟨r, r.getLsbD 7, r.getLsbD 6 ^^ r.getLsbD 5, r == 0, r.getLsbD 6⟩ := by
    rw [arrBinary, hr]
  have hdecimal : arrDecimal t c =
      ⟨if high then (r' &&& 0x0F) ||| ((r' + 0x60) &&& 0xF0) else r', c, (r ^^^ t).getLsbD 6, r == 0, high⟩ := by
    simp only [arrDecimal, hr, decide_eq_true_eq, r', high]
  rw [hbinary, hdecimal, State.decimal] at hends
  generalize (s.decimalEnabled && s.flag .d) = d at hends ⊢
  cases d with
  | true => exact ⟨hends.value, hends.c, hends.n, hends.z, hends.v⟩
  | false => exact ⟨hends.value, ⟨hends.z, hends.n⟩, hends.c, hends.v⟩

/-- Settles O54: ANE is a load of A, and LXA a LAX, of a byte that depends on the open constant. -/
theorem aneAndLxaUseTheirMagicConstants : Obligations.AneAndLxaUseTheirMagicConstants := by
  refine fun s b => ⟨?ane, ?lxa⟩
  case ane =>
    obtain ⟨ht, hruns, hmem, hscratch⟩ := (runsRead_ane b).completes_immediate blind_opAne keepsRest_opAne s
    obtain ⟨ha, hzn, honly⟩ := Register.load_ends .a (aneValue Config.aneMagic s.a s.x b) s
      (s.immediate_changesOnly (.aneImm b) b)
    exact ⟨_, ht, hruns, ha, hzn, honly, hmem, hscratch⟩
  case lxa =>
    obtain ⟨ht, hruns, hmem, hscratch⟩ := (runsRead_lxa b).completes_immediate blind_opLxa keepsRest_opLxa s
    obtain ⟨ha, hx, hzn, honly⟩ := opLax_ends (s.immediate_changesOnly (.lxaImm b) b) (lxaValue Config.lxaMagic s.a b)
    exact ⟨_, ht, hruns, ha, hx, hzn, honly, hmem, hscratch⟩

/-- Settles O55: each row makes the store of R355, and TAS makes it after it has set S. -/
theorem shStoresAndTasAndTheHighByte : Obligations.ShStoresAndTasAndTheHighByte := by
  refine fun s b w => ⟨fun f m source hf base i hm => ?sh, ?tas⟩
  case sh =>
    obtain ⟨j, v, hrow, hv, rfl⟩ := runsHighStore_shForms b w s f m source hf
    exact hrow.stores hv hm
  case tas =>
    let v := (s.a &&& s.x) &&& (hi8 w + 1)
    have hrun := (exec_tasAbsy w s).trans (run_tasSeq (.tasAbsy w) w s (reaches_absIndexed (.tasAbsy w) w .y s) rfl rfl)
    let p := s.progressed (opcodeOf (.tasAbsy w)) 3 (lo8 (eaAbsIndexed .y w s))
      (if carries w s.y then v else hi8 (eaAbsIndexed .y w s)) s.operand
      (s.thenRead (fetch3 s (.tasAbsy w) w) (unfixed w s.y) ++ [.write (highPlace w s.y v) v])
    have row : (⟨.tasAbsy w, 0x9B, 3, 5⟩ : Form).Encodes := ⟨rfl, rfl⟩
    obtain ⟨hruns, hstores, hbus⟩ := row.storesAfterUnfixed (m := .absIndexed .y w) rfl rfl
      (Register.keepsRest_set .s (s.a &&& s.x) p)
    have hp : ChangesOnly [] [] s p := s.progressed_changesOnly ..
    obtain ⟨hsp, honly⟩ := Register.set_ends .s (s.a &&& s.x) s hp
    exact ⟨_, hrun, hruns, hsp, hstores, honly, hbus⟩

end Sys2Proof.Machine
end

section
/-! The family of 60_exceptions.md: CORE raises no exception (R380, R381), the entry to an interrupt and the return from
it (R387 to R392), the host's calls (R394), and the read of I at dispatch (R396). -/

namespace Sys2Proof.Machine

/-! When a Tick answers a next state (R381). -/

/-- Inside its entry, OpCodeCycle is c0 or finds an action. -/
theorem tick_safe {s : State} (h : s.inTable) : SafeAnswer (tick s) := by
  by_cases h0 : s.opCodeCycle = 0
  · exact ⟨_, tick_boundary h0⟩
  · have hlt : s.opCodeCycle - 1 < (microOps s.opCode).cycles.length := by
      simp only [State.inTable, Entry.length] at h
      omega
    simp only [tick, h0, if_false, List.getElem?_eq_getElem hlt]
    exact ⟨_, rfl⟩

/-- Outside its entry, OpCodeCycle finds none. -/
theorem tick_fault {s : State} (h : ¬ s.inTable) : tick s = .fault .cycleOutOfTable := by
  simp only [State.inTable, Entry.length] at h
  have h0 : s.opCodeCycle ≠ 0 := by omega
  have hge : (microOps s.opCode).cycles.length ≤ s.opCodeCycle - 1 := by omega
  simp only [tick, h0, if_false, List.getElem?_eq_none hge]

/-! Taking the pending interrupt (R387, R388, R390). -/

/-- At a boundary with a pending request, a step takes the interrupt (R133). -/
theorem step_takeInterrupt {s : State} (h : s.opCodeCycle = 0) (hp : s.interruptPending = true) :
    step s = .next s.takeInterrupt := by
  rw [step, if_pos h, if_pos hp]

/-- The image of P that an interrupt pushes (R48, R390). -/
theorem State.statusImage_false (s : State) : s.statusImage false = (s.p &&& 0xCF) ||| 0x20 := BitVec.or_zero

/-- The bytes that an interrupt pushes, each with its slot (R387, R388, R390). -/
abbrev interruptPushes (s : State) : List (Addr × Byte) :=
  [(wordOf 0x01 s.sp, hi8 s.pc), (wordOf 0x01 (s.sp - 1), lo8 s.pc), (wordOf 0x01 (s.sp - 2), (s.p &&& 0xCF) ||| 0x20)]

/-- No push of an interrupt reaches the slot of an earlier one. -/
theorem lastWritten_interruptPushes (s : State) :
    (∀ old, lastWritten (interruptPushes s) (wordOf 0x01 s.sp) old = hi8 s.pc) ∧
      (∀ old, lastWritten (interruptPushes s) (wordOf 0x01 (s.sp - 1)) old = lo8 s.pc) ∧
      ∀ old, lastWritten (interruptPushes s) (wordOf 0x01 (s.sp - 2)) old = (s.p &&& 0xCF) ||| 0x20 := by
  have h1 := slot_ne_zero s.sp 1 (by decide)
  have h2 := slot_ne_zero s.sp 2 (by decide)
  have h21 := slot_ne s.sp 2 1 (by decide)
  exact ⟨fun _ => (if_neg h2).trans ((if_neg h1).trans (if_pos rfl)), fun _ => (if_neg h21).trans (if_pos rfl),
    fun _ => if_pos rfl⟩

theorem pushedThree_false (s : State) :
    pushedThree s false = (interruptPushes s).map fun c => .write c.1 c.2 := by
  simp [pushedThree, s.statusImage_false, State.pc]

/-- The registers and latches of `s` in the sequence that c0 dispatches to (R133). -/
abbrev State.dispatching (s : State) : State :=
  { s with opCode := if s.nmiSignal then .nmiSequence else .irqSequence, nmiSignal := false }

/-- Taking an interrupt changes no register but S, and no flag but I (R387). -/
theorem takeInterrupt_changesOnly (s : State) : ChangesOnly [.s] [.i] s s.takeInterrupt := by
  rw [takeInterrupt_eq]
  refine ⟨fun r hr => ?_, fun g hg => ?_⟩
  · cases r with
    | s => exact absurd (List.mem_singleton_self _) hr
    | a | x | y => rfl
  · have hne : Flag.i ≠ g := fun h => hg (List.mem_singleton.2 h.symm)
    exact (s.flag_setFlag .i g true).trans (if_neg hne)

/-! P and I after an instruction. -/

section ends
variable {s t : State}

/-- A pulled P has the flags of the composite write (R47). -/
theorem flag_of_pulled {v : Byte} (h : t.p = v ||| 0x20) (g : Flag) : t.flag g = (t.setStatus v).flag g :=
  congrArg (BitVec.getLsbD · g.bit) h

theorem flag_i_of_pulled {v : Byte} (h : t.p = v ||| 0x20) : t.flag .i = v.getLsbD 2 := by
  rw [flag_of_pulled h, State.flag_setStatus]
  rfl

/-- After an instruction, what its poll latched is pending as the I that it leaves lets it be (R133, R136, R396). -/
theorem Completes.interruptPending (h : Completes s t) :
    t.interruptPending = (s.nmiSignal || s.nmiEdgeDetector || (s.irqLevelDetector && !t.flag .i)) := by
  obtain ⟨-, -, -, hirq, hnmi, -⟩ := h
  rw [State.interruptPending, hirq, hnmi]

end ends

/-- Each flag instruction completes with its flag written. -/
theorem completes_flagForms (s : State) {f : Form} {g : Flag} {v : Bool} (hf : (f, g, v) ∈ flagForms) :
    ∃ t, exec f.instr s = .next t ∧ Completes s t ∧ t.flag g = v := by
  obtain ⟨t, ht, ⟨-, -, hc⟩, hg, -⟩ := flagInstructionsWriteOneFlag s _ hf
  exact ⟨t, ht, hc, hg⟩

/-- CLI, SEI, PLP and RTI complete with the I that they write. -/
theorem completes_interruptFlagForms (s : State) : ∀ r ∈ interruptFlagForms s,
    ∃ t, exec r.1 s = .next t ∧ Completes s t ∧ t.flag .i = r.2 := by
  intro r hr
  obtain ⟨-, plp, hplp, ⟨-, -, hcplp⟩, hpplp, -⟩ := plaAndPlpPullOneByte s
  obtain ⟨rti, hrti, -, hcrti, hprti, -⟩ := rtiPullsStatusAndPc s
  fin_cases hr
  · exact completes_flagForms s (f := ⟨.cli, 0x58, 1, 2⟩) (by simp [flagForms])
  · exact completes_flagForms s (f := ⟨.sei, 0x78, 1, 2⟩) (by simp [flagForms])
  · exact ⟨plp, hplp, hcplp, flag_i_of_pulled hpplp⟩
  · exact ⟨rti, hrti, hcrti, flag_i_of_pulled hprti⟩

/-! The obligations. -/

/-- Settles O12: c0 has no entry to leave, and after it an action is found exactly inside the entry. -/
theorem tickFaultsOnlyOutsideTheTable : Obligations.TickFaultsOnlyOutsideTheTable := by
  refine fun s => ⟨⟨fun hf hin => ?_, tick_fault⟩, tick_safe⟩
  obtain ⟨t, ht⟩ := tick_safe hin
  rw [hf] at ht
  cases ht

/-- Settles O11: a step runs an entry or the rest of one, and every instruction completes. -/
theorem noStepStops : Obligations.NoStepStops := by
  refine ⟨fun s hin => ?step, fun i s => ?exec⟩
  case step =>
    by_cases h0 : s.opCodeCycle = 0
    · exact ⟨_, step_boundary h0⟩
    · exact ⟨_, step_inside h0 hin⟩
  case exec =>
    obtain ⟨t, ht, -⟩ := everyInstructionPollsAndTakesItsCycles i s
    exact ⟨t, ht⟩

/-- Settles O18: the sequence is the entry of a handler with B clear, from the state that the dispatching c0 leaves. -/
theorem interruptEntrySavesPcAndPAndLoadsTheVector : Obligations.InterruptEntrySavesPcAndPAndLoadsTheVector := by
  intro s h0 hp vector image slot1 slot2 slot3 pushes l
  have honly := takeInterrupt_changesOnly s
  refine ⟨_, step_takeInterrupt h0 hp, ?_⟩
  rw [takeInterrupt_eq] at honly ⊢
  let reads := s.thenReads [] [s.pc, s.pc]
  let p := s.dispatching
  have hl : reads ++ pushedThree p false = l := congrArg (reads ++ ·) (pushedThree_false p)
  have hbus := interruptEntered_bus p s reads false vector
  have hpc := interruptEntered_pc p s reads false vector
  have hwrites := interruptEntered_platform p s reads false vector (by simp [reads])
  rw [hl] at hbus hpc
  rw [pushedThree_false] at hwrites
  exact ⟨hpc, rfl, (s.flag_setFlag .i .i true).trans (if_pos rfl), honly, ⟨rfl, rfl, rfl⟩, writes_of hwrites,
    hbus, ⟨rfl, rfl⟩, rfl, rfl, rfl, rfl, rfl, rfl, rfl⟩

/-- Settles O19: RTI pulls P and PC from the slots that the entry pushed them to, for it writes nothing. -/
theorem rtiUndoesInterruptEntry : Obligations.RtiUndoesInterruptEntry := by
  intro s hram h0 hp hu
  obtain ⟨t, ht, -, hsp, -, ⟨hreg, -⟩, -, ⟨hplat, hmem⟩, -⟩ := interruptEntrySavesPcAndPAndLoadsTheVector s h0 hp
  obtain ⟨u, hrti, -, -, hup, hpc, husp, hua, hux, huy, -⟩ := rtiPullsStatusAndPc t
  obtain ⟨hhigh, hlow, himage⟩ := lastWritten_interruptPushes s
  have hram' : t.platform.isRam := by
    rw [hplat]
    exact Platform.isRam_write _ (Platform.isRam_write _ (s.platform.isRam_write hram ..) ..) ..
  have hread (l : List BusAccess) (hl : t.platform.after l = t.platform) (q : Addr) :
      t.answer l q = lastWritten (interruptPushes s) q (s.peek q) :=
    (State.answer_eq_peek (Platform.passive_of_isRam hram') hl q).trans (hmem hram q)
  have hslot3 : t.sp + 3 = s.sp := by rw [hsp, BitVec.sub_add_cancel]
  have hslot2 : t.sp + 2 = s.sp - 1 := by rw [hsp]; bv_omega
  have hslot1 : t.sp + 1 = s.sp - 2 := by rw [hsp]; bv_omega
  refine ⟨t, u, ht, hrti, ?pc, ?registers, ?flags⟩
  case pc =>
    rw [hpc, hslot3, hslot2, hread _ (by simp), hread _ (by simp), hhigh, hlow, wordOf_hi8_lo8]
  case registers =>
    intro r _
    cases r with
    | s => exact husp.trans hslot3
    | a => exact hua.trans (hreg .a (by decide))
    | x => exact hux.trans (hreg .x (by decide))
    | y => exact huy.trans (hreg .y (by decide))
  case flags =>
    intro g hg
    have hne : g ≠ .b := fun h => hg (List.mem_singleton.2 h)
    rw [hslot1, hread _ (by simp), himage, ← s.statusImage_false] at hup
    rw [flag_of_pulled hup, State.flag_setStatus_image u s false g hne hu]

/-- Settles O21, from the I that each instruction leaves. -/
theorem theInterruptFlagIsReadAtDispatch : Obligations.TheInterruptFlagIsReadAtDispatch := by
  intro s r hr
  obtain ⟨t, ht, hc, hi⟩ := completes_interruptFlagForms s r hr
  exact ⟨t, ht, hi, hi ▸ hc.interruptPending⟩

/-- Settles O7: each call is the write of its detector. -/
theorem hostCallsChangeOneDetectorEach : Obligations.HostCallsChangeOneDetectorEach :=
  fun _ => ⟨rfl, rfl, rfl⟩

end Sys2Proof.Machine
end
